-- ==== Sys2Proof/Word.lean ====
section
/-! DEFINITION. The widths of the FSD's numbers (spec 00_scope R11: `uN`, `iN`) and the triple of a sensor's three axes. -/

namespace Sys2Proof

/-- A byte of RXBUF (R36). -/
abbrev Byte := BitVec 8

/-- A nibble of an extension byte (R62). -/
abbrev Nibble := BitVec 4

/-- `u16`, and `i16` as its two's-complement pattern (R11). -/
abbrev W16 := BitVec 16

/-- `u32`, and `i32` as its two's-complement pattern (R11). -/
abbrev W32 := BitVec 32

/-- `u64` (R11). -/
abbrev W64 := BitVec 64

/-- A command bundle (R53). -/
abbrev Bundle := BitVec 88

/-- One value per axis X, Y, Z: `q` of the datapath rules (40_datapath, head). -/
structure Axes (α : Type) where
  x : α
  y : α
  z : α
deriving DecidableEq, Repr

/-- Apply a function to the three axes. -/
def Axes.map {α β : Type} (f : α → β) (v : Axes α) : Axes β :=
  ⟨f v.x, f v.y, f v.z⟩

/-- Whether a test holds of some axis. -/
def Axes.any {α : Type} (p : α → Bool) (v : Axes α) : Bool :=
  p v.x || p v.y || p v.z

end Sys2Proof
end

