-- ==== Sys2Proof/Config.lean ====
section
/-! DEFINITION. The configuration record CFG of spec 00_scope R8, its default instance, the constants R9 fixes, and the free value of a byte of RXBUF no transport move has written (20_memory R45). -/

namespace Sys2Proof

/-- `SENTINEL20` = -524288, the 20-bit pattern 0x80000 as an `i32` (R9, 90_conflicts C1). -/
def sentinel20 : W32 := 0xFFF80000#32

/-- `SENTINEL16` = -32768, the 16-bit pattern 0x8000 (R9, 90_conflicts C1). -/
def sentinel16 : W16 := 0x8000#16

/-- `ACC_SHIFT` (R9). -/
def accShift : Nat := 2

/-- `GYR_SHIFT` (R9). -/
def gyrShift : Nat := 1

/-- The offsets of one axis q: `OFF_Aq_H`, `OFF_Aq_M`, `OFF_Gq_H`, `OFF_Gq_M`, `OFF_EXT_q` (R8, R59). -/
structure AxisOffsets where
  accH : Nat
  accM : Nat
  gyrH : Nat
  gyrM : Nat
  ext : Nat
deriving DecidableEq, Repr

/-- The seventeen `OFF_*` parameters (R8). -/
structure Offsets where
  axes : Axes AxisOffsets
  tH : Nat
  tL : Nat
deriving DecidableEq, Repr

/-- The five offsets of an axis as a list. -/
def AxisOffsets.list (o : AxisOffsets) : List Nat :=
  [o.accH, o.accM, o.gyrH, o.gyrM, o.ext]

/-- The seventeen offsets as a list (R59: the bytes of a record the FSD reads). -/
def Offsets.list (o : Offsets) : List Nat :=
  o.axes.x.list ++ o.axes.y.list ++ o.axes.z.list ++ [o.tH, o.tL]

/-- The six constants of the scaling stage (R8, R85): exact rationals, the spec gives no value for any of them. -/
structure Scaling where
  accelFine : Rat
  accelCoarse : Rat
  gyroFine : Rat
  gyroCoarse : Rat
  tempSensitivity : Rat
  tempOffset : Rat
deriving DecidableEq, Repr

/-- The configuration record `CFG` (R8). `scaling` is `none` where the scaling stage is not used: R8 gives its constants no default. -/
structure Cfg where
  recordSize : Nat
  fifoCapacity : Nat
  maxBatch : Nat
  headerSlack : Nat
  samplePeriodUs : Nat
  offsets : Offsets
  accelNibbleHigh : Bool
  scaling : Option Scaling
deriving DecidableEq, Repr

/-- The default record layout of R60 (PRESUMED by the spec: general knowledge G6; log entry 2). -/
def Offsets.default : Offsets where
  axes := ⟨⟨1, 2, 7, 8, 17⟩, ⟨3, 4, 9, 10, 18⟩, ⟨5, 6, 11, 12, 19⟩⟩
  tH := 13
  tL := 14

/-- `CFG_DEFAULT` (R8; log entry 2). -/
def Cfg.default : Cfg where
  recordSize := 20
  fifoCapacity := 2048
  maxBatch := 32
  headerSlack := 4
  samplePeriodUs := 1000
  offsets := Offsets.default
  accelNibbleHigh := true
  scaling := none

/-- FREE VALUE (R45, U10; log entry 6): the byte at address `addr` of RXBUF that draw number `draw` left there. There is one draw at each power-on, for the whole buffer, and one at each XFD with `f` = 1, for the bytes of the burst the transport did not write. Nothing constrains it. -/
opaque Config.unwrittenByte (draw addr : Nat) : Byte

end Sys2Proof
end

