-- ==== Sys2Proof/Syntax.lean ====
section
/-! DEFINITION. The eight operations of the FSD (spec 30_encoding R56), one constructor per row of the opcode table, with the operands each one uses. -/

namespace Sys2Proof

/-- An operation with its operands. `f` is the transfer-succeeded flag (R54); an operand an operation ignores (R53) is not part of it. -/
inductive Instr where
  /-- NOP (R100) -/
  | nop
  /-- RST (R101) -/
  | rst
  /-- CNT (R87): `f` and the count word `op_b` -/
  | cnt (f : Bool) (count : W16)
  /-- FLA (R92) -/
  | fla
  /-- ARM (R93): `op_a` = T, `op_b` = K -/
  | arm (t : W64) (k : W16)
  /-- XFD (R95): `f` -/
  | xfd (f : Bool)
  /-- DEC (R96) -/
  | dec
  /-- RUN (R98) -/
  | run
deriving DecidableEq, Repr

end Sys2Proof
end

