-- ==== Sys2Proof/WellFormed.lean ====
section
/-! DEFINITION. When a configuration is well-formed (spec 00_scope R10) and when an operation is (30_encoding R53 to R55). -/

namespace Sys2Proof

/-- R10 (a). -/
abbrev Cfg.SizesOk (c : Cfg) : Prop :=
  1 ≤ c.recordSize ∧ 1 ≤ c.maxBatch ∧ 1 ≤ c.samplePeriodUs ∧ c.samplePeriodUs < 4294967296

/-- R10 (b). -/
abbrev Cfg.OffsetsInRecord (c : Cfg) : Prop :=
  ∀ o ∈ c.offsets.list, o < c.recordSize

/-- R10 (c). -/
abbrev Cfg.OffsetsDistinct (c : Cfg) : Prop :=
  c.offsets.list.Nodup

/-- R10 (d). -/
abbrev Cfg.BatchFits (c : Cfg) : Prop :=
  c.maxBatch * c.recordSize + c.headerSlack ≤ c.fifoCapacity

/-- R10 (e). -/
abbrev Cfg.CapacityFits (c : Cfg) : Prop :=
  c.fifoCapacity ≤ 65535

/-- R10 (f). -/
abbrev Cfg.BatchIs16Bit (c : Cfg) : Prop :=
  c.maxBatch ≤ 65535

/-- R10 (g): where the scaling stage is used, its sensitivity is not zero. -/
abbrev Cfg.ScalingOk (c : Cfg) : Prop :=
  c.scaling.all (fun k => k.tempSensitivity != 0) = true

/-- R10: the configurations the model gives behaviour to. -/
abbrev Cfg.WellFormed (c : Cfg) : Prop :=
  c.SizesOk ∧ c.OffsetsInRecord ∧ c.OffsetsDistinct ∧ c.BatchFits ∧ c.CapacityFits ∧ c.BatchIs16Bit ∧ c.ScalingOk

/-- Every operation is well-formed: each operand is used as it stands at the full width of its field (R55), K = 0 and K > MAX_BATCH
are spelled by legal bundles (they raise ARG when issued, R106), so no term of `Instr` lacks a bundle. -/
abbrev Instr.WellFormed (i : Instr) : Prop :=
  match i with
  | .nop => True
  | .rst => True
  | .cnt _ _ => True
  | .fla => True
  | .arm _ _ => True
  | .xfd _ => True
  | .dec => True
  | .run => True

end Sys2Proof
end

