-- ==== Sys2Proof/Decode.lean ====
section
/-! DEFINITION. The decoder of a command bundle (spec 30_encoding R53 to R58), total and rejecting by name, and the encoder written from the same tables. -/

namespace Sys2Proof

/-- Why a bundle spells no operation (R57). Every one of them raises ILLEGAL (60_exceptions R104). -/
inductive DecodeError where
  /-- `rsv` is not 000 -/
  | reservedBits
  /-- `opc` is 0x8 .. 0xF -/
  | reservedOpcode
  /-- `f` = 1 on an operation that does not use `f` -/
  | flagNotUsed
deriving DecidableEq, Repr

/-- `op_a`, bits 87:24 (R53). -/
def Bundle.opA (b : Bundle) : W64 := b.extractLsb' 24 64

/-- `op_b`, bits 23:8 (R53). -/
def Bundle.opB (b : Bundle) : W16 := b.extractLsb' 8 16

/-- `cmd`, bits 7:0 (R53). -/
def Bundle.cmd (b : Bundle) : Byte := b.extractLsb' 0 8

/-- `rsv`, bits 7:5 of the command word (R54). -/
def cmdRsv (cmd : Byte) : BitVec 3 := cmd.extractLsb' 5 3

/-- `f`, bit 4 of the command word (R54). -/
def cmdF (cmd : Byte) : Bool := cmd.getLsbD 4

/-- `opc`, bits 3:0 of the command word (R54). -/
def cmdOpc (cmd : Byte) : BitVec 4 := cmd.extractLsb' 0 4

/-- An operation that does not use `f`: legal only with `f` = 0 (R54). -/
def withoutF (f : Bool) (i : Instr) : Except DecodeError Instr :=
  if f then .error .flagNotUsed else .ok i

/-- The opcode map (R56), for a command word whose reserved bits are zero. -/
def decodeOpc (opc : BitVec 4) (f : Bool) (opA : W64) (opB : W16) : Except DecodeError Instr :=
  match opc.toNat with
  | 0x0 => withoutF f .nop
  | 0x1 => withoutF f .rst
  | 0x2 => .ok (.cnt f opB)
  | 0x3 => withoutF f .fla
  | 0x4 => withoutF f (.arm opA opB)
  | 0x5 => .ok (.xfd f)
  | 0x6 => withoutF f .dec
  | 0x7 => withoutF f .run
  | _ => .error .reservedOpcode

/-- The decoder (R53 to R58): one of the eight operations, or why there is none. -/
def decode (b : Bundle) : Except DecodeError Instr :=
  if cmdRsv b.cmd = 0 then decodeOpc (cmdOpc b.cmd) (cmdF b.cmd) b.opA b.opB
  else .error .reservedBits

/-- The ten legal command words, in the order R57 lists them. -/
def legalWords : List Byte :=
  [0x00, 0x01, 0x02, 0x12, 0x03, 0x04, 0x05, 0x15, 0x06, 0x07]

/-- The command word of an operation (R56). -/
def Instr.cmd : Instr → Byte
  | .nop => 0x00
  | .rst => 0x01
  | .cnt f _ => if f then 0x12 else 0x02
  | .fla => 0x03
  | .arm _ _ => 0x04
  | .xfd f => if f then 0x15 else 0x05
  | .dec => 0x06
  | .run => 0x07

/-- The wide operand of an operation; an ignored operand is encoded as 0 (R67). -/
def Instr.opA : Instr → W64
  | .nop => 0
  | .rst => 0
  | .cnt _ _ => 0
  | .fla => 0
  | .arm t _ => t
  | .xfd _ => 0
  | .dec => 0
  | .run => 0

/-- The narrow operand of an operation; an ignored operand is encoded as 0 (R67). -/
def Instr.opB : Instr → W16
  | .nop => 0
  | .rst => 0
  | .cnt _ count => count
  | .fla => 0
  | .arm _ k => k
  | .xfd _ => 0
  | .dec => 0
  | .run => 0

/-- The three fields of a bundle laid side by side (R53). -/
def bundleOf (opA : W64) (opB : W16) (cmd : Byte) : Bundle := opA ++ opB ++ cmd

/-- The encoder (R53, R54, R56). -/
def encode (i : Instr) : Bundle := bundleOf i.opA i.opB i.cmd

/-- The bundle whose low `nbits` bits are `w` and whose other bits are 0, as spec/opcode_table.json numbers them (bit 0 of `cmd` is bit 0). -/
def tableBundle (nbits w : Nat) : Bundle := BitVec.ofNat 88 (w % 2 ^ nbits)

/-- What the decoder reads from that bundle; `none` where it spells no operation. -/
def decodeTableWord (nbits w : Nat) : Option Instr :=
  match decode (tableBundle nbits w) with
  | .ok i => some i
  | .error _ => none

end Sys2Proof
end

