-- ==== Sys2Proof/Machine/State.lean ====
section
/-! DEFINITION. The state of the FSD (spec 10_state R13 to R34), the environment's moves, and the reasons a step can stop. -/

namespace Sys2Proof.Machine

/-- PHASE (R14). The value 3 is never held, so the type has three values (R14, U9; log entry 11). -/
inductive Phase where
  | idle
  | armed
  | decoding
deriving DecidableEq, Repr

/-- CLASS (R19). The values 5 to 7 are never held (R19, U9; log entry 11). -/
inductive CountClass where
  | none
  | ok
  | empty
  | ovfBytes
  | ovfBatch
deriving DecidableEq, Repr

/-- SFLAGS, the flags of the last decoded record (R24), bits 0 to 4 in this order. -/
structure SampleFlags where
  valid : Bool
  accBad : Bool
  tempBad : Bool
  coarseA : Bool
  coarseG : Bool
deriving DecidableEq, Repr

/-- ERR, the sticky error flags (R25), bits 0 to 2 in this order. -/
structure ErrFlags where
  illegal : Bool
  seq : Bool
  arg : Bool
deriving DecidableEq, Repr

/-- One element of OUT (R66). -/
structure OutSample where
  ax : W32
  ay : W32
  az : W32
  gx : W32
  gy : W32
  gz : W32
  tempRaw : W16
  ts : W64
  coarseA : Bool
  coarseG : Bool
deriving DecidableEq, Repr

/-- One move of the FSD's environment (R7, R67 "script"; log entry 4). -/
inductive EnvMove where
  /-- the owner issues a command bundle (R53) -/
  | issue (b : Bundle)
  /-- the transport writes these bytes to RXBUF from this address on (R44, the `.rx` directive of R67) -/
  | rx (addr : Nat) (bytes : List Byte)
  /-- the reset input, if the implementation has one (R118; log entry 13) -/
  | hardReset
  /-- power is lost and comes back (R117, R118; log entry 13) -/
  | powerOn
deriving DecidableEq, Repr

/-- Why the machine stops with a fault. -/
inductive Fault where
  /-- Raised by DEC and RUN where the record lies at or above FIFO_CAPACITY, where R36 says there is no byte: `base` is the record's base address. SAFE: no run reaches it (R38). -/
  | rxAddress (base : Nat)
  /-- Raised by DEC and RUN in phase DECODING with IDX = 0, a state R16 says never occurs. SAFE: no run reaches it. -/
  | noRecordLeft
deriving DecidableEq, Repr

/-- Why the model gives no behaviour. -/
inductive Refusal where
  /-- Raised by no meaning: an instruction the model gives none. SAFE. -/
  | notModelled (mnemonic : String)
  /-- Raised by `step` where CFG is not well-formed (R10, U4). SAFE: the spec gives such a configuration no behaviour. -/
  | illFormedConfig
  /-- Raised by `step` for a transport move outside phase ARMED (R44, U12). UNSAFE, as R122 says: a faulty platform could make that move. -/
  | transportOutsideArmed
  /-- Raised by `step` for a transport move that goes past XFER_LEN (R44) or past the buffer (R36). UNSAFE in the same way. -/
  | transportBeyondTransfer
deriving DecidableEq, Repr

/-- The state. The fields down to `out` are the spec's (R13); the last six are the model's own (log entries 1, 4, 6). -/
@[ext]
structure State where
  /-- PHASE (R14) -/
  phase : Phase
  /-- IDX (R16) -/
  idx : W16
  /-- K_LAT (R15) -/
  kLat : W16
  /-- T_LAT (R15) -/
  tLat : W64
  /-- XFER_LEN (R17) -/
  xferLen : W16
  /-- BYTE_COUNT (R18) -/
  byteCount : W16
  /-- SAMPLES (R18) -/
  samples : W16
  /-- CLASS (R19) -/
  countClass : CountClass
  /-- FLUSH_REQ (R20) -/
  flushReq : Bool
  /-- DONE (R21) -/
  done : Bool
  /-- DRAIN_ERR (R21) -/
  drainErr : Bool
  /-- VALID_COUNT (R21) -/
  validCount : W16
  /-- AX (R22) -/
  ax : W32
  /-- AY (R22) -/
  ay : W32
  /-- AZ (R22) -/
  az : W32
  /-- GX (R22) -/
  gx : W32
  /-- GY (R22) -/
  gy : W32
  /-- GZ (R22) -/
  gz : W32
  /-- TEMP_RAW (R23) -/
  tempRaw : W16
  /-- TS (R23) -/
  ts : W64
  /-- SFLAGS (R24) -/
  sflags : SampleFlags
  /-- ERR (R25) -/
  err : ErrFlags
  /-- FIFO_EMPTY_CNT (R28) -/
  fifoEmptyCnt : W32
  /-- FIFO_OVERFLOW_CNT (R28) -/
  fifoOverflowCnt : W32
  /-- FIFO_RESET_CNT (R28) -/
  fifoResetCnt : W32
  /-- BAD_XFER_CNT (R28) -/
  badXferCnt : W32
  /-- RXBUF (R29): the bytes the transport has written since power-on, addresses strictly rising -/
  rxbuf : List Host.Cell
  /-- OUT (R30), oldest emission first -/
  out : List OutSample
  /-- CFG (R8), which no step changes (log entry 1) -/
  cfg : Cfg
  /-- the addresses the transport has written since the last accepted ARM, strictly rising (R45; log entry 6) -/
  rxWin : List Nat
  /-- the addresses whose byte a burst reported as a success left undelivered, each with the number of its draw, addresses strictly
  rising; the transport has not written them since (R45; log entry 6) -/
  rxDraws : List (Nat × Nat)
  /-- the number of the draw of the last power-on, for the bytes nothing has written since (R33, R45; log entry 6) -/
  powerEpoch : Nat
  /-- how many draws there have been (log entry 6) -/
  epoch : Nat
  /-- the environment's moves still to come (log entry 4) -/
  script : List EnvMove
deriving DecidableEq, Repr

/-- The machine right after power-on (R33, R118) with a given configuration. -/
def State.resetWith (c : Cfg) : State where
  phase := .idle
  idx := 0
  kLat := 0
  tLat := 0
  xferLen := 0
  byteCount := 0
  samples := 0
  countClass := .none
  flushReq := false
  done := false
  drainErr := false
  validCount := 0
  ax := 0
  ay := 0
  az := 0
  gx := 0
  gy := 0
  gz := 0
  tempRaw := 0
  ts := 0
  sflags := ⟨false, false, false, false, false⟩
  err := ⟨false, false, false⟩
  fifoEmptyCnt := 0
  fifoOverflowCnt := 0
  fifoResetCnt := 0
  badXferCnt := 0
  rxbuf := []
  out := []
  cfg := c
  rxWin := []
  rxDraws := []
  powerEpoch := 0
  epoch := 0
  script := []

/-- The machine right after power-on with `CFG_DEFAULT` (R8, R33). -/
def State.reset : State := State.resetWith Cfg.default

end Sys2Proof.Machine
end

