-- ==== Sys2Proof/Machine/Ops.lean ====
section
/-! DEFINITION. The named operations over memory, counters and error flags: reading and writing RXBUF, the saturating increment, raising a command condition, resetting, emitting. -/

namespace Sys2Proof.Machine

/-- The three outcomes of one step of this machine. -/
abbrev Result := Host.Outcome State Fault Refusal

/-- The canonical form of a memory: addresses strictly rising. An unlisted address of RXBUF holds no byte the model knows, so no listed
byte can equal it and the second half of the form (no entry equal to an unlisted one) holds of every list. -/
abbrev Memory.wf {α : Type} (m : List (Nat × α)) : Prop :=
  m.Pairwise (fun p q => p.1 < q.1)

/-- What a memory lists at an address. -/
def memRead {α : Type} : List (Nat × α) → Nat → Option α
  | [], _ => none
  | (k, v) :: m, a => if a = k then some v else memRead m a

/-- Write one entry, keeping the canonical form. -/
def memWrite {α : Type} : List (Nat × α) → Nat → α → List (Nat × α)
  | [], a, b => [(a, b)]
  | (k, v) :: m, a, b =>
    if a < k then (a, b) :: (k, v) :: m
    else if a = k then (k, b) :: m
    else (k, v) :: memWrite m a b

/-- Write bytes at consecutive addresses. -/
def memWriteList : List Host.Cell → Nat → List Byte → List Host.Cell
  | m, _, [] => m
  | m, a, b :: bs => memWriteList (memWrite m a b) (a + 1) bs

/-- Write one entry at each of these addresses. -/
def memFill {α : Type} (v : α) : List (Nat × α) → List Nat → List (Nat × α)
  | m, [] => m
  | m, a :: as => memFill v (memWrite m a v) as

/-- Unlist `n` consecutive addresses. -/
def memForget {α : Type} (m : List (Nat × α)) (a n : Nat) : List (Nat × α) :=
  m.filter fun p => decide (p.1 < a) || decide (a + n ≤ p.1)

/-- Add an address to a strictly rising list of addresses. -/
def addrInsert : List Nat → Nat → List Nat
  | [], a => [a]
  | k :: l, a =>
    if a < k then a :: k :: l
    else if a = k then k :: l
    else k :: addrInsert l a

/-- Add `n` consecutive addresses. -/
def addrInsertRange : List Nat → Nat → Nat → List Nat
  | l, _, 0 => l
  | l, a, n + 1 => addrInsertRange (addrInsert l a) (a + 1) n

/-- `MemRead(addr, 1)` of R12, R39, and what RXBUF's status port shows (R13): the byte the transport wrote there last, and a free
value where it has written none since power-on or where a burst reported as a success left the byte undelivered (R45; log entry 6). -/
def rxByte (s : State) (a : Nat) : Byte :=
  match memRead s.rxDraws a with
  | some d => Config.unwrittenByte d a
  | none => (memRead s.rxbuf a).getD (Config.unwrittenByte s.powerEpoch a)

/-- The addresses of the burst that the transport has not written. -/
def undelivered (s : State) : List Nat :=
  (List.range s.xferLen.toNat).filter fun a => decide (a ∉ s.rxWin)

/-- What the report that the burst succeeded says of RXBUF: it holds the burst (R95), and a byte the transport did not write reads as
unspecified from here on (R45, U10), a new draw; every other byte stays (R44). -/
def settleBurst (s : State) : State :=
  { s with rxDraws := memFill (s.epoch + 1) s.rxDraws (undelivered s), epoch := s.epoch + 1 }

/-- `sat_inc` (R12, R27). -/
def satInc (c : W32) : W32 :=
  if c.toNat < 4294967295 then c + 1 else c

/-- The three command conditions (R102). -/
inductive Condition where
  | illegal
  | seq
  | arg
deriving DecidableEq, Repr

/-- The sticky bit of a condition is set, the others stay (R25, R108, R109). -/
def setCondition (c : Condition) (e : ErrFlags) : ErrFlags :=
  match c with
  | .illegal => { e with illegal := true }
  | .seq => { e with seq := true }
  | .arg => { e with arg := true }

/-- The state a refused operation leaves (R108): its one ERR bit set, nothing else changed. -/
def raiseState (c : Condition) (s : State) : State :=
  { s with err := setCondition c s.err }

/-- `raise` (R12, R108): TAKING A COMMAND CONDITION. There is no vector, no saved state and no return operation (R108, R109). -/
def raise (c : Condition) (s : State) : Result :=
  .next (raiseState c s)

/-- What ends the stickiness of ERR (R109), and everything else RST and the reset input write (R101, R118): every element of R31
but RXBUF and OUT goes to 0. -/
def resetRegisters (s : State) : State :=
  { State.resetWith s.cfg with
    rxbuf := s.rxbuf, out := s.out, rxWin := s.rxWin, rxDraws := s.rxDraws, powerEpoch := s.powerEpoch, epoch := s.epoch
    script := s.script }

/-- Power-on (R33, R118): as `resetRegisters`, and OUT is empty and no byte of RXBUF is known. Every byte is a
new free value (log entry 6). -/
def powerOnState (s : State) : State :=
  { State.resetWith s.cfg with powerEpoch := s.epoch + 1, epoch := s.epoch + 1, script := s.script }

/-- `emit(sample)` (R12, R30): the stream always takes it. -/
def emit (r : OutSample) (s : State) : State :=
  { s with out := s.out ++ [r] }

/-- Run the rest of an operation from a next state; a stop stays a stop. -/
def andThen (r : Result) (f : State → Result) : Result :=
  match r with
  | .next s => f s
  | .fault e => .fault e
  | .refused e => .refused e

end Sys2Proof.Machine
end

