-- ==== Sys2Proof/Machine/Control.lean ====
section
/-! DEFINITION. The control operations NOP and RST (spec 43_control_ops R100, R101). -/

namespace Sys2Proof.Machine

/-- NOP (R100): nothing, in every phase. -/
def execNop (s : State) : Result := .next s

/-- RST (R101): legal in every phase. -/
def execRst (s : State) : Result := .next (resetRegisters s)

end Sys2Proof.Machine
end

