-- ==== Sys2Proof/Machine/Count.lean ====
section
/-! DEFINITION. The count operations CNT and FLA (spec 41_count_ops R87 to R92). -/

namespace Sys2Proof.Machine

/-- `cnt_value` (R88). -/
def cntValue (count : W16) (f : Bool) : W16 := if f then count else 0

/-- What a byte count is classified as (R89). -/
structure Classified where
  cls : CountClass
  samples : W16
  flush : Bool
deriving DecidableEq, Repr

/-- `classify` (R89): the tests in the order the rule gives them. -/
def classify (c : Cfg) (bc : W16) : Classified :=
  if c.fifoCapacity ≤ bc.toNat then ⟨.ovfBytes, 0, true⟩
  else if bc.toNat / c.recordSize = 0 then ⟨.empty, 0, false⟩
  else if c.maxBatch < bc.toNat / c.recordSize then ⟨.ovfBatch, 0, true⟩
  else ⟨.ok, BitVec.ofNat 16 (bc.toNat / c.recordSize), false⟩

/-- Increment a counter where its event has happened (R28). -/
def countIf (event : Bool) (c : W32) : W32 := if event then satInc c else c

/-- What an accepted CNT leaves (R87), for a byte count and whether the count read succeeded. -/
def countState (f : Bool) (bc : W16) (s : State) : State :=
  let r := classify s.cfg bc
  { s with
    byteCount := bc
    samples := r.samples
    countClass := r.cls
    flushReq := s.flushReq || r.flush
    fifoEmptyCnt := countIf (r.cls == .empty) s.fifoEmptyCnt
    fifoOverflowCnt := countIf (r.cls == .ovfBytes || r.cls == .ovfBatch) s.fifoOverflowCnt
    badXferCnt := countIf (!f) s.badXferCnt }

/-- CNT (R87). -/
def execCnt (f : Bool) (count : W16) (s : State) : Result :=
  if s.phase = .idle then .next (countState f (cntValue count f) s)
  else raise .seq s

/-- What an accepted FLA leaves (R92). -/
def flushAckState (s : State) : State :=
  { s with flushReq := false, fifoResetCnt := satInc s.fifoResetCnt }

/-- FLA (R92). -/
def execFla (s : State) : Result :=
  if s.phase = .idle then .next (flushAckState s)
  else raise .seq s

end Sys2Proof.Machine
end

