-- ==== Sys2Proof/Machine/Operands.lean ====
section
/-! DEFINITION. The operand forms: the address of a field of a record (spec 20_memory R40), the seventeen bytes of a record (30_encoding R59), and the assembly of a field from its bytes (40_datapath R69 to R72, R78; 30_encoding R61 to R63). -/

namespace Sys2Proof.Machine

/-- `base(i)` (R40). -/
def recordBase (c : Cfg) (i : Nat) : Nat :=
  c.headerSlack + i * c.recordSize

/-- Whether every byte read of record `i` is an address of RXBUF (R36, R39). -/
def recordInBuffer (c : Cfg) (i : Nat) : Bool :=
  c.offsets.list.all (fun o => decide (recordBase c i + o < c.fifoCapacity))

/-- The five bytes of one axis of a record (R59). -/
structure AxisBytes where
  accH : Byte
  accM : Byte
  gyrH : Byte
  gyrM : Byte
  ext : Byte
deriving DecidableEq, Repr

/-- The seventeen bytes of a record that are read (R59). -/
structure RecordBytes where
  axes : Axes AxisBytes
  tH : Byte
  tL : Byte
deriving DecidableEq, Repr

/-- The bytes of one axis, given what each offset of the record reads as. -/
def axisBytes (rd : Nat → Byte) (o : AxisOffsets) : AxisBytes :=
  ⟨rd o.accH, rd o.accM, rd o.gyrH, rd o.gyrM, rd o.ext⟩

/-- The seventeen bytes, given what each offset of the record reads as. -/
def recordBytes (rd : Nat → Byte) (o : Offsets) : RecordBytes :=
  ⟨o.axes.map (axisBytes rd), rd o.tH, rd o.tL⟩

/-- The seventeen byte reads of record `i` (R39, R40, R59). -/
def fetchRecord (s : State) (i : Nat) : RecordBytes :=
  recordBytes (fun o => rxByte s (recordBase s.cfg i + o)) s.cfg.offsets

/-- Bits 7:4 of a byte. -/
def highNibble (b : Byte) : Nibble := b.extractLsb' 4 4

/-- Bits 3:0 of a byte. -/
def lowNibble (b : Byte) : Nibble := b.extractLsb' 0 4

/-- `acc_nib` (R62). -/
def accNibble (accelHigh : Bool) (ext : Byte) : Nibble :=
  if accelHigh then highNibble ext else lowNibble ext

/-- `gyr_nib` (R62). -/
def gyrNibble (accelHigh : Bool) (ext : Byte) : Nibble :=
  if accelHigh then lowNibble ext else highNibble ext

/-- `reassemble20` (R69): the three parts in place, and the top twelve bits set where bit 19 is. -/
def reassemble20 (high mid : Byte) (low : Nibble) : W32 :=
  let u : W32 := (high.setWidth 32 <<< 12) ||| (mid.setWidth 32 <<< 4) ||| low.setWidth 32
  if u.getLsbD 19 then 0xFFF00000#32 ||| u else u

/-- Packing, the inverse of `reassemble20` (R61): high, mid and nibble of the 20-bit pattern of a value. -/
def pack20 (v : W32) : Byte × Byte × Nibble :=
  (v.extractLsb' 12 8, v.extractLsb' 4 8, v.extractLsb' 0 4)

/-- `temp16` (R72, R48): high byte first. -/
def temp16 (hi lo : Byte) : W16 := hi ++ lo

/-- `sext_16((high << 8) | mid)`, the 16-bit field of an axis (R78). -/
def field16 (high mid : Byte) : W32 := (temp16 high mid).signExtend 32

/-- `a20` (R71). -/
def accel20 (accelHigh : Bool) (b : RecordBytes) : Axes W32 :=
  b.axes.map fun q => reassemble20 q.accH q.accM (accNibble accelHigh q.ext)

/-- `g20` (R71). -/
def gyro20 (accelHigh : Bool) (b : RecordBytes) : Axes W32 :=
  b.axes.map fun q => reassemble20 q.gyrH q.gyrM (gyrNibble accelHigh q.ext)

/-- `a16` (R78). -/
def accel16 (b : RecordBytes) : Axes W32 :=
  b.axes.map fun q => field16 q.accH q.accM

/-- `g16` (R78). -/
def gyro16 (b : RecordBytes) : Axes W32 :=
  b.axes.map fun q => field16 q.gyrH q.gyrM

end Sys2Proof.Machine
end

