-- ==== Sys2Proof/Machine/Flags.lean ====
section
/-! DEFINITION. The flag computations of a record (spec 40_datapath R73 to R75, R77) and the bit views of SFLAGS, ERR, PHASE, CLASS and STATUS (10_state R14, R19, R24 to R26). -/

namespace Sys2Proof.Machine

/-- `acc_bad` (R73): some unshifted axis is the sentinel. -/
def accBad (a20 : Axes W32) : Bool := a20.any (fun v => v == sentinel20)

/-- `temp_bad` (R74). -/
def tempBad (t16 : W16) : Bool := t16 == sentinel16

/-- `ovf16` (R77). -/
def ovf16 (v : W32) : Bool := decide (v.toInt < -32768) || decide (32767 < v.toInt)

/-- `coarse_a`, `coarse_g` (R77), of the three shifted values of one sensor. -/
def coarse (shifted : Axes W32) : Bool := shifted.any ovf16

/-- The flags of a record (R82), from its unshifted and shifted values. `valid` is R75. -/
def sampleFlags (a20 a18 g19 : Axes W32) (t16 : W16) : SampleFlags where
  valid := !accBad a20 && !tempBad t16
  accBad := accBad a20
  tempBad := tempBad t16
  coarseA := coarse a18
  coarseG := coarse g19

/-- The value PHASE holds (R14). -/
def Phase.code : Phase → BitVec 2
  | .idle => 0
  | .armed => 1
  | .decoding => 2

/-- The value CLASS holds (R19). -/
def CountClass.code : CountClass → BitVec 3
  | .none => 0
  | .ok => 1
  | .empty => 2
  | .ovfBytes => 3
  | .ovfBatch => 4

/-- SFLAGS as its five bits (R24). -/
def SampleFlags.bits (f : SampleFlags) : BitVec 5 :=
  BitVec.ofBool f.coarseG ++ BitVec.ofBool f.coarseA ++ BitVec.ofBool f.tempBad ++ BitVec.ofBool f.accBad
    ++ BitVec.ofBool f.valid

/-- ERR as its three bits (R25). -/
def ErrFlags.bits (e : ErrFlags) : BitVec 3 :=
  BitVec.ofBool e.arg ++ BitVec.ofBool e.seq ++ BitVec.ofBool e.illegal

/-- STATUS, a view (R26). -/
def State.status (s : State) : BitVec 8 :=
  s.countClass.code ++ BitVec.ofBool s.drainErr ++ BitVec.ofBool s.done ++ BitVec.ofBool s.flushReq ++ s.phase.code

end Sys2Proof.Machine
end

