-- ==== Sys2Proof/Machine/Datapath.lean ====
section
/-! DEFINITION. The decode of a whole record (spec 40_datapath R76, R80 to R82) and the timestamp of a record (R83). -/

namespace Sys2Proof.Machine

/-- `v >>a n` (R11, R76): the arithmetic shift. -/
def asr (n : Nat) (v : W32) : W32 := v.sshiftRight n

/-- `a18` (R76). -/
def accel18 (a20 : Axes W32) : Axes W32 := a20.map (asr accShift)

/-- `g19` (R76). -/
def gyro19 (g20 : Axes W32) : Axes W32 := g20.map (asr gyrShift)

/-- `sel_a`, `sel_g` (R80): the three axes of a sensor come from one path. -/
def selectPath (isCoarse : Bool) (fine narrow : Axes W32) : Axes W32 :=
  if isCoarse then narrow else fine

/-- Frame correction (R81): Y and Z negated in 32 bits. -/
def frameCorrect (v : Axes W32) : Axes W32 := ⟨v.x, -v.y, -v.z⟩

/-- What the decode of one record gives (R82). -/
structure Decoded where
  acc : Axes W32
  gyr : Axes W32
  temp : W16
  flags : SampleFlags
deriving DecidableEq, Repr

/-- `decode_record` of the bytes of a record (R82), in the order of its stages. -/
def decodeRecord (accelHigh : Bool) (b : RecordBytes) : Decoded :=
  let a20 := accel20 accelHigh b
  let g20 := gyro20 accelHigh b
  let t16 := temp16 b.tH b.tL
  let a18 := accel18 a20
  let g19 := gyro19 g20
  let flags := sampleFlags a20 a18 g19 t16
  { acc := frameCorrect (selectPath flags.coarseA a18 (accel16 b))
    gyr := frameCorrect (selectPath flags.coarseG g19 (gyro16 b))
    temp := t16
    flags := flags }

/-- `ts` (R83): `(T - (K - 1 - i) * P) mod 2^64`, computed in the integers. -/
def recordTs (t : W64) (k i p : Nat) : W64 :=
  BitVec.ofInt 64 ((t.toNat : Int) - ((k : Int) - 1 - i) * p)

/-- The element of OUT a decoded record makes (R66). -/
def Decoded.sample (d : Decoded) (ts : W64) : OutSample where
  ax := d.acc.x
  ay := d.acc.y
  az := d.acc.z
  gx := d.gyr.x
  gy := d.gyr.y
  gz := d.gyr.z
  tempRaw := d.temp
  ts := ts
  coarseA := d.flags.coarseA
  coarseG := d.flags.coarseG

/-- `decode_record(i)` of a state (R82). -/
def decodeAt (s : State) (i : Nat) : Decoded :=
  decodeRecord s.cfg.accelNibbleHigh (fetchRecord s i)

/-- The timestamp of record `i` of the drain in progress (R83, R96). -/
def tsAt (s : State) (i : Nat) : W64 :=
  recordTs s.tLat s.kLat.toNat i s.cfg.samplePeriodUs

end Sys2Proof.Machine
end

