-- ==== Sys2Proof/Machine/Drain.lean ====
section
/-! DEFINITION. The drain operations ARM, XFD, DEC and RUN (spec 42_drain_ops R93 to R99). -/

namespace Sys2Proof.Machine

/-- `xfer_len` (R94). -/
def xferLenOf (c : Cfg) (k : Nat) : Nat :=
  min (k * c.recordSize + c.headerSlack) c.fifoCapacity

/-- What an accepted ARM leaves (R93). RXBUF stays as it is; the transport has written nothing in the new drain yet (R45; log entry 6). -/
def armState (t : W64) (k : W16) (s : State) : State :=
  { s with
    tLat := t
    kLat := k
    xferLen := BitVec.ofNat 16 (xferLenOf s.cfg k.toNat)
    idx := 0
    validCount := 0
    done := false
    drainErr := false
    phase := .armed
    rxWin := [] }

/-- ARM (R93): the SEQ tests, then the ARG test (R107). -/
def execArm (t : W64) (k : W16) (s : State) : Result :=
  if s.phase ≠ .idle then raise .seq s
  else if s.flushReq = true then raise .seq s
  else if k.toNat = 0 ∨ s.cfg.maxBatch < k.toNat then raise .arg s
  else .next (armState t k s)

/-- What XFD leaves when the burst succeeded (R95). -/
def xferOkState (s : State) : State :=
  { settleBurst s with idx := s.kLat, phase := .decoding }

/-- What XFD leaves when the burst failed (R95). -/
def xferFailState (s : State) : State :=
  { s with drainErr := true, badXferCnt := satInc s.badXferCnt, phase := .idle }

/-- XFD (R95). -/
def execXfd (f : Bool) (s : State) : Result :=
  if s.phase = .armed then .next (if f then xferOkState s else xferFailState s)
  else raise .seq s

/-- The result registers, TEMP_RAW, TS and SFLAGS of a decoded record, valid or not (R96). -/
def writeResults (d : Decoded) (ts : W64) (s : State) : State :=
  { s with
    ax := d.acc.x
    ay := d.acc.y
    az := d.acc.z
    gx := d.gyr.x
    gy := d.gyr.y
    gz := d.gyr.z
    tempRaw := d.temp
    ts := ts
    sflags := d.flags }

/-- A valid record is emitted and counted, an invalid one is not (R96). -/
def forwardSample (d : Decoded) (ts : W64) (s : State) : State :=
  if d.flags.valid then { emit (d.sample ts) s with validCount := s.validCount + 1 }
  else s

/-- The cursor moves to record `i`; after record 0 the drain is done (R96). -/
def advanceCursor (i : Nat) (s : State) : State :=
  if i = 0 then { s with idx := BitVec.ofNat 16 i, phase := .idle, done := true }
  else { s with idx := BitVec.ofNat 16 i }

/-- What the decode of record `i` leaves (R96). -/
def recordState (i : Nat) (s : State) : State :=
  let d := decodeAt s i
  let ts := tsAt s i
  advanceCursor i (forwardSample d ts (writeResults d ts s))

/-- The body of DEC without its SEQ test (R96, R98): the record below the cursor is decoded. -/
def decodeNext (s : State) : Result :=
  match s.idx.toNat with
  | 0 => .fault .noRecordLeft
  | i + 1 =>
    if recordInBuffer s.cfg i then .next (recordState i s)
    else .fault (.rxAddress (recordBase s.cfg i))

/-- DEC (R96). -/
def execDec (s : State) : Result :=
  if s.phase = .decoding then decodeNext s
  else raise .seq s

/-- The loop of RUN (R98), at most `n` turns. -/
def runLoop : Nat → State → Result
  | 0, s => .next s
  | n + 1, s => if s.phase = .decoding then andThen (decodeNext s) (runLoop n) else .next s

/-- RUN (R98). The loop has one turn more than IDX records, so it ends because PHASE has left DECODING. -/
def execRun (s : State) : Result :=
  if s.phase = .decoding then runLoop (s.idx.toNat + 1) s
  else raise .seq s

end Sys2Proof.Machine
end

