-- ==== Sys2Proof/Machine/Dispatch.lean ====
section
/-! DEFINITION. One arm per operation: each calls its meaning. -/

namespace Sys2Proof.Machine

def exec (i : Instr) (s : State) : Host.Outcome State Fault Refusal :=
  match i with
  | .nop => Sys2Proof.Machine.execNop s
  | .rst => Sys2Proof.Machine.execRst s
  | .cnt f count => Sys2Proof.Machine.execCnt f count s
  | .fla => Sys2Proof.Machine.execFla s
  | .arm t k => Sys2Proof.Machine.execArm t k s
  | .xfd f => Sys2Proof.Machine.execXfd f s
  | .dec => Sys2Proof.Machine.execDec s
  | .run => Sys2Proof.Machine.execRun s

end Sys2Proof.Machine
end

