-- ==== Sys2Proof/Machine/Environment.lean ====
section
/-! DEFINITION. What each move of the environment does: the owner's bundle (spec 30_encoding R53, R57), the transport's write (20_memory R44), the two hardware resets (70_reset R118). -/

namespace Sys2Proof.Machine

/-- The owner issues a bundle: the operation it spells is executed, and a bundle that spells none raises ILLEGAL before the phase
is looked at (R104, R107). -/
def issueBundle (b : Bundle) (s : State) : Result :=
  match decode b with
  | .ok i => exec i s
  | .error _ => raise .illegal s

/-- What a transport write leaves: its bytes in RXBUF, and their addresses among those written in this drain and no longer
undelivered (R44, R45). -/
def storeBurst (a : Nat) (bytes : List Byte) (s : State) : State :=
  { s with
    rxbuf := memWriteList s.rxbuf a bytes
    rxWin := addrInsertRange s.rxWin a bytes.length
    rxDraws := memForget s.rxDraws a bytes.length }

/-- The transport's move (R44): only in ARMED, only below XFER_LEN, and RXBUF ends at FIFO_CAPACITY (R36). -/
def transportMove (a : Nat) (bytes : List Byte) (s : State) : Result :=
  if s.phase = .armed then
    if a + bytes.length ≤ s.xferLen.toNat ∧ a + bytes.length ≤ s.cfg.fifoCapacity then .next (storeBurst a bytes s)
    else .refused .transportBeyondTransfer
  else .refused .transportOutsideArmed

/-- One move of the environment. -/
def moveStep (m : EnvMove) (s : State) : Result :=
  match m with
  | .issue b => issueBundle b s
  | .rx a bytes => transportMove a bytes s
  | .hardReset => .next (resetRegisters s)
  | .powerOn => .next (powerOnState s)

/-- The state with these moves still to come. -/
def withScript (l : List EnvMove) (s : State) : State := { s with script := l }

/-- The next move is taken from the script; where none is left, bundles have stopped arriving and all state is retained (R117). -/
def nextMove (s : State) : Result :=
  match s.script with
  | [] => .next s
  | m :: rest => moveStep m (withScript rest s)

/-- One step of the machine: the next move, unless CFG is ill-formed (R10). -/
def stepBody (s : State) : Result :=
  if s.cfg.WellFormed then nextMove s else .refused .illFormedConfig

/-- The owner issues this bundle next. -/
def placeBundle (b : Bundle) (s : State) : State :=
  withScript (.issue b :: s.script) s

end Sys2Proof.Machine
end

