-- ==== Sys2Proof/Machine/Step.lean ====
section
/-! DEFINITION. One step of the machine, and the state in which the next step runs a given bundle. -/

namespace Sys2Proof.Machine

/-- One step (R6): the next move of the script. -/
def step (s : State) : Host.Outcome State Fault Refusal := stepBody s

/-- `s` with the bundle of spec/opcode_table.json's bits `w` as the owner's next move (log entry 5). -/
def State.withFetchWord (s : State) (nbits w : Nat) : State := placeBundle (tableBundle nbits w) s

end Sys2Proof.Machine
end

