-- ==== Sys2Proof/Machine/Ports.lean ====
section
/-! DEFINITION. The read-only status ports (spec 10_state R13, R31; 60_exceptions R116), the result registers by index (00_scope R12) and the level outputs (60_exceptions R111). -/

namespace Sys2Proof.Machine

/-- The registers R31 numbers. The elements that have no row of their own there, PHASE, FLUSH_REQ, DONE, DRAIN_ERR and CLASS, are shown by
the register STATUS (R26). DESIGN CHOICE (log entry 22): R13 gives every element a port and the model gives these five that one. -/
inductive Port where
  | status | err | byteCount | samples | xferLen | kLat | idx | validCount | tLat | ts
  | ax | ay | az | gx | gy | gz | tempRaw | sflags
  | fifoEmptyCnt | fifoOverflowCnt | fifoResetCnt | badXferCnt
deriving DecidableEq, Repr

/-- A register's number in R31. -/
def Port.number : Port → Nat
  | .status => 0 | .err => 1 | .byteCount => 2 | .samples => 3 | .xferLen => 4 | .kLat => 5 | .idx => 6
  | .validCount => 7 | .tLat => 8 | .ts => 9
  | .ax => 10 | .ay => 11 | .az => 12 | .gx => 13 | .gy => 14 | .gz => 15
  | .tempRaw => 16 | .sflags => 17
  | .fifoEmptyCnt => 18 | .fifoOverflowCnt => 19 | .fifoResetCnt => 20 | .badXferCnt => 21

/-- A register's width in R31. -/
def Port.width : Port → Nat
  | .status => 8 | .err => 3 | .byteCount => 16 | .samples => 16 | .xferLen => 16 | .kLat => 16 | .idx => 16
  | .validCount => 16 | .tLat => 64 | .ts => 64
  | .ax => 32 | .ay => 32 | .az => 32 | .gx => 32 | .gy => 32 | .gz => 32
  | .tempRaw => 16 | .sflags => 5
  | .fifoEmptyCnt => 32 | .fifoOverflowCnt => 32 | .fifoResetCnt => 32 | .badXferCnt => 32

/-- The bit pattern the status port of a numbered register shows (R13). -/
def State.port (s : State) (p : Port) : BitVec p.width :=
  match p with
  | .status => s.status
  | .err => s.err.bits
  | .byteCount => s.byteCount
  | .samples => s.samples
  | .xferLen => s.xferLen
  | .kLat => s.kLat
  | .idx => s.idx
  | .validCount => s.validCount
  | .tLat => s.tLat
  | .ts => s.ts
  | .ax => s.ax
  | .ay => s.ay
  | .az => s.az
  | .gx => s.gx
  | .gy => s.gy
  | .gz => s.gz
  | .tempRaw => s.tempRaw
  | .sflags => s.sflags.bits
  | .fifoEmptyCnt => s.fifoEmptyCnt
  | .fifoOverflowCnt => s.fifoOverflowCnt
  | .fifoResetCnt => s.fifoResetCnt
  | .badXferCnt => s.badXferCnt

/-- The status ports (R13, R116): one for each numbered register, and one each for RXBUF and OUT, which R31 gives no number. DESIGN CHOICE
(log entry 22): the spec gives these two ports no width and no form, so the model's show the whole buffer and the whole history. -/
inductive StatusPort where
  | register (p : Port)
  | rxbuf
  | out
deriving DecidableEq, Repr

/-- A port's number in R31; RXBUF and OUT have none. -/
def StatusPort.number : StatusPort → Option Nat
  | .register p => some p.number
  | .rxbuf => none
  | .out => none

/-- What a port shows: the bits of a register, the FIFO_CAPACITY bytes of RXBUF (R29), the samples of OUT (R30). -/
abbrev StatusPort.Shows : StatusPort → Type
  | .register p => BitVec p.width
  | .rxbuf => List Byte
  | .out => List OutSample

/-- What RXBUF's port shows: the bytes at addresses 0 .. FIFO_CAPACITY - 1, each as DEC would read it (R29, R36; log entry 22). -/
def rxbufShown (s : State) : List Byte := (List.range s.cfg.fifoCapacity).map (rxByte s)

/-- What a status port shows (R13). -/
def State.statusPort (s : State) : (p : StatusPort) → p.Shows
  | .register p => s.port p
  | .rxbuf => rxbufShown s
  | .out => s.out

/-- `S.RES[n]` (R12, R22); there is no register above 5. -/
def State.res (s : State) : Nat → Option W32
  | 0 => some s.ax
  | 1 => some s.ay
  | 2 => some s.az
  | 3 => some s.gx
  | 4 => some s.gy
  | 5 => some s.gz
  | _ => none

/-- The three level outputs (R111). -/
structure LevelOutputs where
  flushReq : Bool
  done : Bool
  drainErr : Bool
deriving DecidableEq, Repr

/-- The level outputs of a state (R111). -/
def State.levels (s : State) : LevelOutputs := ⟨s.flushReq, s.done, s.drainErr⟩

end Sys2Proof.Machine
end

