-- ==== Sys2Proof/Machine/Scaling.lean ====
section
/-! DEFINITION. The physical scaling stage behind OUT (spec 40_datapath R85, R86): an exact function on rationals of one element of OUT. -/

namespace Sys2Proof.Machine

/-- A sample in physical units (R85). -/
structure PhysSample where
  accel : Axes Rat
  gyro : Axes Rat
  temp : Rat
deriving DecidableEq, Repr

/-- The factor of the accelerometer values of a sample (R85). -/
def accelScale (k : Scaling) (coarseA : Bool) : Rat := if coarseA then k.accelCoarse else k.accelFine

/-- The factor of the gyroscope values of a sample (R85). -/
def gyroScale (k : Scaling) (coarseG : Bool) : Rat := if coarseG then k.gyroCoarse else k.gyroFine

/-- An `i32` times a factor. -/
def scaleBy (f : Rat) (v : W32) : Rat := (v.toInt : Rat) * f

/-- The scaled sample (R85). -/
def physicalSample (k : Scaling) (r : OutSample) : PhysSample where
  accel := (Axes.mk r.ax r.ay r.az).map (scaleBy (accelScale k r.coarseA))
  gyro := (Axes.mk r.gx r.gy r.gz).map (scaleBy (gyroScale k r.coarseG))
  temp := (r.tempRaw.toInt : Rat) / k.tempSensitivity + k.tempOffset

/-- The scaling stage of a configuration: no behaviour where it is not used, or its sensitivity is 0 (R10 g). -/
def scaleSample (c : Cfg) (r : OutSample) : Option PhysSample :=
  match c.scaling with
  | none => none
  | some k => if k.tempSensitivity = 0 then none else some (physicalSample k r)

/-- The emitted samples in physical units: only emitted samples are scaled (R85, R127). -/
def State.scaledOut (s : State) : List (Option PhysSample) := s.out.map (scaleSample s.cfg)

end Sys2Proof.Machine
end

