-- ==== Sys2Proof/Machine/Script.lean ====
section
/-! DEFINITION. The lines of a script (spec 30_encoding R67) with its pseudo-operations (R68): what moves each line stands for, and how a line and a bundle are written. -/

namespace Sys2Proof.Machine

/-- A line of a script: an operation, a pseudo-operation or the transport directive (R67, R68). -/
inductive ScriptLine where
  | op (i : Instr)
  | readCount (b0 b1 : Byte) (ok : Bool)
  | drain (t : W64) (k : W16) (ok : Bool)
  | rx (addr : Nat) (bytes : List Byte)
deriving DecidableEq, Repr

/-- The operations `READCOUNT` stands for (R68): the count word is big-endian (R65). -/
def expandReadCount (b0 b1 : Byte) (ok : Bool) : List Instr := [.cnt ok (b0 ++ b1)]

/-- The operations `DRAIN` stands for (R68). -/
def expandDrain (t : W64) (k : W16) (ok : Bool) : List Instr :=
  if ok then [.arm t k, .xfd true, .run] else [.arm t k, .xfd false]

/-- The operations of a line; the transport directive is none. -/
def ScriptLine.instrs : ScriptLine → List Instr
  | .op i => [i]
  | .readCount b0 b1 ok => expandReadCount b0 b1 ok
  | .drain t k ok => expandDrain t k ok
  | .rx _ _ => []

/-- The environment's moves a line stands for. -/
def ScriptLine.moves : ScriptLine → List EnvMove
  | .op i => [.issue (encode i)]
  | .readCount b0 b1 ok => (expandReadCount b0 b1 ok).map fun i => .issue (encode i)
  | .drain t k ok => (expandDrain t k ok).map fun i => .issue (encode i)
  | .rx a bytes => [.rx a bytes]

/-- `ok` or `fail` (R67). -/
def okText (ok : Bool) : String := if ok then "ok" else "fail"

/-- An operation as its line is written (R67). -/
def instrText : Instr → String
  | .nop => "NOP"
  | .rst => "RST"
  | .cnt f count => "CNT " ++ toString count.toNat ++ ", " ++ okText f
  | .fla => "FLA"
  | .arm t k => "ARM " ++ toString t.toNat ++ ", " ++ toString k.toNat
  | .xfd f => "XFD " ++ okText f
  | .dec => "DEC"
  | .run => "RUN"

/-- The last `digits` hexadecimal digits of a number, capitals, most significant first. -/
def hexDigits : Nat → Nat → List Char
  | 0, _ => []
  | digits + 1, n => hexDigits digits (n / 16) ++ [(Nat.digitChar (n % 16)).toUpper]

/-- A bundle as three hexadecimal numbers `op_a:op_b:cmd` (R67), as characters. -/
def bundleText (b : Bundle) : List Char :=
  hexDigits 16 b.opA.toNat ++ [':'] ++ hexDigits 4 b.opB.toNat ++ [':'] ++ hexDigits 2 b.cmd.toNat

/-- A line as it is written (R67, R68). -/
def ScriptLine.text : ScriptLine → String
  | .op i => instrText i
  | .readCount b0 b1 ok => "READCOUNT " ++ toString b0.toNat ++ ", " ++ toString b1.toNat ++ ", " ++ okText ok
  | .drain t k ok => "DRAIN " ++ toString t.toNat ++ ", " ++ toString k.toNat ++ ", " ++ okText ok
  | .rx a bytes => ".rx " ++ toString a ++ ":" ++ (bytes.map fun b => " " ++ String.ofList (hexDigits 2 b.toNat)).foldl (· ++ ·) ""

end Sys2Proof.Machine
end

