-- ==== Sys2Proof/Safety.lean ====
section
/-! DEFINITION. The terms claims are stated in: what a safe state is (spec 60_exceptions R109), the legality table (R105), the invariants of the machine, the samples of a drain (42_drain_ops R99), and the decode of a record written with integers straight from 40_datapath. -/

namespace Sys2Proof.Machine

/-- The safety predicate of R109: no error flag is set. -/
abbrev State.NoError (s : State) : Prop := s.err = ⟨false, false, false⟩

/-- The table of R105: whether an operation is accepted in a phase, with or without a pending flush. -/
def accepted : Instr → Phase → Bool → Bool
  | .nop, _, _ => true
  | .rst, _, _ => true
  | .cnt _ _, .idle, _ => true
  | .cnt _ _, .armed, _ => false
  | .cnt _ _, .decoding, _ => false
  | .fla, .idle, _ => true
  | .fla, .armed, _ => false
  | .fla, .decoding, _ => false
  | .arm _ _, .idle, flush => !flush
  | .arm _ _, .armed, _ => false
  | .arm _ _, .decoding, _ => false
  | .xfd _, .idle, _ => false
  | .xfd _, .armed, _ => true
  | .xfd _, .decoding, _ => false
  | .dec, .idle, _ => false
  | .dec, .armed, _ => false
  | .dec, .decoding, _ => true
  | .run, .idle, _ => false
  | .run, .armed, _ => false
  | .run, .decoding, _ => true

/-- The operand condition of R106: the K of an ARM is in 1 .. MAX_BATCH. Every other operation has none. -/
def operandsOk (c : Cfg) : Instr → Prop
  | .arm _ k => 1 ≤ k.toNat ∧ k.toNat ≤ c.maxBatch
  | .nop | .rst | .cnt _ _ | .fla | .xfd _ | .dec | .run => True

/-- The sequencing state is consistent (R14 to R17, R20, R21, R93 to R99). -/
structure SeqInv (s : State) : Prop where
  /-- the configuration is one the model gives behaviour to (R10) -/
  cfg : s.cfg.WellFormed
  /-- R16 -/
  idxLe : s.idx.toNat ≤ s.kLat.toNat
  /-- R16 -/
  kLe : s.kLat.toNat ≤ s.cfg.maxBatch
  /-- R16 -/
  decoding : s.phase = .decoding ↔ 0 < s.idx.toNat
  /-- R95: `K_LAT >= 1` always holds in ARMED -/
  armed : s.phase = .armed → 1 ≤ s.kLat.toNat
  /-- R93: ARM clears VALID_COUNT, and no record has been decoded in ARMED -/
  armedFresh : s.phase = .armed → s.validCount = 0
  /-- R105: `FLUSH_REQ` can be 1 only in IDLE -/
  flushIdle : s.flushReq = true → s.phase = .idle
  /-- R21: at most one of DONE, DRAIN_ERR is 1 -/
  oneResult : ¬ (s.done = true ∧ s.drainErr = true)
  /-- R93, R99: neither is 1 while the drain goes on -/
  noResultYet : s.phase ≠ .idle → s.done = false ∧ s.drainErr = false
  /-- R99: the valid records and the records not yet decoded are at most K -/
  validLe : s.validCount.toNat + s.idx.toNat ≤ s.kLat.toNat
  /-- R93, R94: XFER_LEN is the length for K while the drain goes on -/
  xferLen : s.phase ≠ .idle → s.xferLen.toNat = s.kLat.toNat * s.cfg.recordSize + s.cfg.headerSlack

/-- Every element of R31 but RXBUF and OUT is at its reset value. -/
structure RegistersZero (s : State) : Prop where
  phase : s.phase = .idle
  idx : s.idx = 0
  kLat : s.kLat = 0
  tLat : s.tLat = 0
  xferLen : s.xferLen = 0
  byteCount : s.byteCount = 0
  samples : s.samples = 0
  countClass : s.countClass = .none
  flushReq : s.flushReq = false
  done : s.done = false
  drainErr : s.drainErr = false
  validCount : s.validCount = 0
  results : s.ax = 0 ∧ s.ay = 0 ∧ s.az = 0 ∧ s.gx = 0 ∧ s.gy = 0 ∧ s.gz = 0 ∧ s.tempRaw = 0 ∧ s.ts = 0
  sflags : s.sflags = ⟨false, false, false, false, false⟩
  err : s.err = ⟨false, false, false⟩
  counters : s.fifoEmptyCnt = 0 ∧ s.fifoOverflowCnt = 0 ∧ s.fifoResetCnt = 0 ∧ s.badXferCnt = 0

/-- RXBUF, the addresses written in this drain and the undelivered bytes are in canonical form and lie in the buffer (R36, R44), the
burst fits the buffer (R94), and a byte written in this drain is a known byte. -/
structure RxInv (s : State) : Prop where
  memForm : Memory.wf s.rxbuf
  memInBuffer : ∀ p ∈ s.rxbuf, p.1 < s.cfg.fifoCapacity
  winForm : s.rxWin.Pairwise (· < ·)
  winWritten : ∀ a ∈ s.rxWin, ∃ b, memRead s.rxbuf a = some b
  xferInBuffer : s.xferLen.toNat ≤ s.cfg.fifoCapacity
  drawForm : Memory.wf s.rxDraws
  drawInBuffer : ∀ p ∈ s.rxDraws, p.1 < s.cfg.fifoCapacity
  winDelivered : ∀ a ∈ s.rxWin, memRead s.rxDraws a = none

/-- A value of an X axis (R80): -32768 .. 32767. -/
abbrev FitsX (v : W32) : Prop := -32768 ≤ v.toInt ∧ v.toInt ≤ 32767

/-- A value of a negated Y or Z axis (R81): -32767 .. 32768. -/
abbrev FitsYZ (v : W32) : Prop := -32767 ≤ v.toInt ∧ v.toInt ≤ 32768

/-- The result registers lie in the range of R81 and the flags of the last record agree with each other (R24, R82). -/
structure ResultInv (s : State) : Prop where
  ax : FitsX s.ax
  ay : FitsYZ s.ay
  az : FitsYZ s.az
  gx : FitsX s.gx
  gy : FitsYZ s.gy
  gz : FitsYZ s.gz
  /-- R24: VALID = 1 needs both BAD flags 0 -/
  valid : s.sflags.valid = true → s.sflags.accBad = false ∧ s.sflags.tempBad = false
  /-- R82: ACC_BAD = 1 implies COARSE_A = 1 -/
  accBadCoarse : s.sflags.accBad = true → s.sflags.coarseA = true

/-- An emitted sample lies in the range of R81 and is not at the temperature sentinel (95_test_vectors T2, T3). -/
structure SampleOk (r : OutSample) : Prop where
  ax : FitsX r.ax
  ay : FitsYZ r.ay
  az : FitsYZ r.az
  gx : FitsX r.gx
  gy : FitsYZ r.gy
  gz : FitsYZ r.gz
  temp : r.tempRaw.toInt ≠ -32768

/-- Every sample ever emitted is one R75 and R81 allow. -/
abbrev OutInv (s : State) : Prop := ∀ r ∈ s.out, SampleOk r

/-- The count registers are those of the last CNT, or of no CNT since reset (R18, R19, R89). -/
abbrev CountInv (s : State) : Prop :=
  if s.countClass = .none then s.byteCount = 0 ∧ s.samples = 0
  else (classify s.cfg s.byteCount).cls = s.countClass ∧ (classify s.cfg s.byteCount).samples = s.samples

/-- The samples of the records `n - 1` down to 0, newest first, the invalid ones left out (R96, R99). -/
def drainSamples (s : State) : Nat → List OutSample
  | 0 => []
  | i + 1 =>
    (if (decodeAt s i).flags.valid then [(decodeAt s i).sample (tsAt s i)] else []) ++ drainSamples s i

/-- `n` DECs in a row (R98). -/
def decTimes : Nat → State → Result
  | 0, s => .next s
  | n + 1, s => andThen (exec .dec s) (decTimes n)

/-- `sext_N` of R12, with integers. -/
def sextInt (n u : Nat) : Int := if 2 ^ (n - 1) ≤ u then (u : Int) - 2 ^ n else u

/-- R69 with integers. -/
def refField20 (high mid : Byte) (low : Nat) : Int := sextInt 20 (high.toNat * 4096 + mid.toNat * 16 + low)

/-- R78, R72 with integers. -/
def refField16 (high mid : Byte) : Int := sextInt 16 (high.toNat * 256 + mid.toNat)

/-- R62 with integers: the accelerometer's nibble. -/
def refAccNibble (accelHigh : Bool) (ext : Byte) : Nat := if accelHigh then ext.toNat / 16 else ext.toNat % 16

/-- R62 with integers: the gyroscope's nibble. -/
def refGyrNibble (accelHigh : Bool) (ext : Byte) : Nat := if accelHigh then ext.toNat % 16 else ext.toNat / 16

/-- `ovf16` of R77. -/
def refOvf16 (v : Int) : Bool := decide (v < -32768) || decide (32767 < v)

/-- What R82 says a record decodes to, with integers. -/
structure RefDecoded where
  acc : Axes Int
  gyr : Axes Int
  temp : Int
  flags : SampleFlags
deriving DecidableEq, Repr

/-- R81 with integers. -/
def refFrame (v : Axes Int) : Axes Int := ⟨v.x, -v.y, -v.z⟩

/-- R71 to R82 with integers: floor division for the shifts, comparisons with the numbers of R9. -/
def refDecode (accelHigh : Bool) (b : RecordBytes) : RefDecoded :=
  let a20 := b.axes.map fun q => refField20 q.accH q.accM (refAccNibble accelHigh q.ext)
  let g20 := b.axes.map fun q => refField20 q.gyrH q.gyrM (refGyrNibble accelHigh q.ext)
  let t16 := refField16 b.tH b.tL
  let a18 := a20.map fun v => v / 4
  let g19 := g20.map fun v => v / 2
  let a16 := b.axes.map fun q => refField16 q.accH q.accM
  let g16 := b.axes.map fun q => refField16 q.gyrH q.gyrM
  let aBad := a20.any fun v => v == -524288
  let tBad := t16 == -32768
  let cA := a18.any refOvf16
  let cG := g19.any refOvf16
  { acc := refFrame (if cA then a16 else a18)
    gyr := refFrame (if cG then g16 else g19)
    temp := t16
    flags := ⟨!aBad && !tBad, aBad, tBad, cA, cG⟩ }

end Sys2Proof.Machine
end

