-- ==== Sys2Proof/Certificates/Slice0/Obligations.lean ====
section
/-! DEFINITION. The statements about the FSD, taken from the numbered rules of spec/. Where a clause rests on a field of the model's own (`cfg`, `rxWin`, `rxDraws`, `powerEpoch`, `epoch`, `script`) the docstring says so and names the log entry. -/

open Sys2Proof Sys2Proof.Machine

/-! ## Encodings -/

/-- For every operation, decoding its bundle gives it back with every operand (30_encoding R53 to R56). -/
def Obligations.DecodeEncodeRoundTrip : Prop :=
  ∀ i : Instr, i.WellFormed → decode (encode i) = .ok i

/-- The other direction: what a bundle decodes to encodes to the same command word and the operands that are used, with the ignored
operands 0 (30_encoding R53, R67; that the decoder drops them is log entry 19). -/
def Obligations.EncodeKeepsUsedFields : Prop :=
  ∀ (b : Bundle) (i : Instr), decode b = .ok i →
    (encode i).extractLsb' 0 8 = b.extractLsb' 0 8 ∧
    (encode i).extractLsb' 8 16 =
      (match i with
        | .cnt _ _ => b.extractLsb' 8 16
        | .arm _ _ => b.extractLsb' 8 16
        | .nop | .rst | .fla | .xfd _ | .dec | .run => 0) ∧
    (encode i).extractLsb' 24 64 =
      (match i with
        | .arm _ _ => b.extractLsb' 24 64
        | .cnt _ _ | .nop | .rst | .fla | .xfd _ | .dec | .run => 0)

/-- The opcode map, field by field of the bundle: op_a is bits 87:24, op_b bits 23:8, the command word bits 7:0 with rsv 7:5, f 4,
opc 3:0 (30_encoding R53, R54, R56). -/
def Obligations.OpcodeMapReadsFields : Prop :=
  ∀ b : Bundle,
    let opA : BitVec 64 := b.extractLsb' 24 64
    let opB : BitVec 16 := b.extractLsb' 8 16
    let rsv : BitVec 3 := b.extractLsb' 5 3
    let f : Bool := b.getLsbD 4
    let opc : BitVec 4 := b.extractLsb' 0 4
    (rsv = 0 → f = false → opc = 0x0 → decode b = .ok .nop) ∧
    (rsv = 0 → f = false → opc = 0x1 → decode b = .ok .rst) ∧
    (rsv = 0 → opc = 0x2 → decode b = .ok (.cnt f opB)) ∧
    (rsv = 0 → f = false → opc = 0x3 → decode b = .ok .fla) ∧
    (rsv = 0 → f = false → opc = 0x4 → decode b = .ok (.arm opA opB)) ∧
    (rsv = 0 → opc = 0x5 → decode b = .ok (.xfd f)) ∧
    (rsv = 0 → f = false → opc = 0x6 → decode b = .ok .dec) ∧
    (rsv = 0 → f = false → opc = 0x7 → decode b = .ok .run) ∧
    ((rsv ≠ 0 ∨ 8 ≤ opc.toNat ∨ (f = true ∧ opc ≠ 0x2 ∧ opc ≠ 0x5)) → ∃ e, decode b = .error e)

/-- Bundles written out by hand from R53 to R56 and the worked examples of R67, R87, R92, R93, R95, R98, R101. -/
def Obligations.WrittenBundlesDecode : Prop :=
  decode 0x0000000000000000000000#88 = .ok .nop ∧
  decode 0x0000000000000000000001#88 = .ok .rst ∧
  decode 0x0000000000000000002812#88 = .ok (.cnt true 40) ∧
  decode 0x0000000000000000123402#88 = .ok (.cnt false 4660) ∧
  decode 0x0000000000000000000003#88 = .ok .fla ∧
  decode 0x00000000000F4240000204#88 = .ok (.arm 1000000 2) ∧
  decode 0x0000000000000000000015#88 = .ok (.xfd true) ∧
  decode 0x0000000000000000000005#88 = .ok (.xfd false) ∧
  decode 0xFFFFFFFFFFFFFFFFFFFF06#88 = .ok .dec ∧
  decode 0x0000000000000000000007#88 = .ok .run ∧
  decode 0x0000000000000000000010#88 = .error .flagNotUsed ∧
  decode 0x0000000000000000000008#88 = .error .reservedOpcode ∧
  decode 0x0000000000000000000027#88 = .error .reservedBits

/-- Exactly ten command words are legal and decode to an operation; a bundle with any other word decodes to none, and issuing it sets
ERR.ILLEGAL and changes nothing else, in every phase and whatever the operands (30_encoding R57, 60_exceptions R104). -/
def Obligations.IllegalWordOnlySetsIllegal : Prop :=
  ∀ (s : State) (b : Bundle),
    let legal : List (BitVec 8) := [0x00, 0x01, 0x02, 0x12, 0x03, 0x04, 0x05, 0x15, 0x06, 0x07]
    (b.extractLsb' 0 8 ∈ legal → ∃ i, decode b = .ok i) ∧
    (b.extractLsb' 0 8 ∉ legal →
      (∃ e, decode b = .error e) ∧ issueBundle b s = .next { s with err := { s.err with illegal := true } })

/-! ## The step -/

/-- A bundle at the head of the script that decodes to an operation runs that operation, and one that decodes to none raises ILLEGAL, on
the state without that bundle. The script is the model's own (log entry 4). -/
def Obligations.StepRunsDecodedOperation : Prop :=
  ∀ (s : State) (b : Bundle) (rest : List EnvMove), s.cfg.WellFormed → s.script = .issue b :: rest →
    (∀ i : Instr, decode b = .ok i → i.WellFormed → step s = exec i { s with script := rest }) ∧
    (∀ e, decode b = .error e →
      step s = .next { s with script := rest, err := { s.err with illegal := true } })

/-- A configuration that fails one of R10 (a) to (g) gets no behaviour, and CFG_DEFAULT is well-formed (00_scope R10). The name of the
refusal and that State carries the configuration are the model's (log entries 1 and 3). -/
def Obligations.IllFormedConfigHasNoBehaviour : Prop :=
  (∀ s : State,
    ¬ ((1 ≤ s.cfg.recordSize ∧ 1 ≤ s.cfg.maxBatch ∧ 1 ≤ s.cfg.samplePeriodUs ∧ s.cfg.samplePeriodUs < 2 ^ 32) ∧
        (∀ o ∈ s.cfg.offsets.list, o < s.cfg.recordSize) ∧
        s.cfg.offsets.list.Pairwise (· ≠ ·) ∧
        s.cfg.maxBatch * s.cfg.recordSize + s.cfg.headerSlack ≤ s.cfg.fifoCapacity ∧
        s.cfg.fifoCapacity ≤ 65535 ∧
        s.cfg.maxBatch ≤ 65535 ∧
        (∀ k, s.cfg.scaling = some k → k.tempSensitivity ≠ 0)) →
      step s = .refused .illFormedConfig) ∧
  Cfg.default.WellFormed ∧ Cfg.default.offsets.list.length = 17

/-- With no move left all state is retained (60_exceptions R117). The script is the model's own (log entry 4). -/
def Obligations.StateIsRetainedWithoutMoves : Prop :=
  ∀ s : State, s.cfg.WellFormed → s.script = [] → step s = .next s

/-- No step changes the configuration (00_scope R8, 10_state R34). That State carries it is the model's choice (log entry 1). -/
def Obligations.ConfigurationNeverChanges : Prop :=
  ∀ s t : State, step s = .next t → t.cfg = s.cfg

/-- From a state that meets the sequencing invariant no step ends in a fault, and every bundle is answered with a next state
(60_exceptions R108; 20_memory R38). The script and the two faults are the model's (log entries 4, 9, 10). -/
def Obligations.EveryBundleIsAnswered : Prop :=
  ∀ s : State, SeqInv s →
    (∀ e, step s ≠ .fault e) ∧
    (∀ b rest, s.script = .issue b :: rest → ∃ t, step s = .next t)

/-! ## The transport -/

/-- In ARMED the transport sets bytes below XFER_LEN to any values and leaves every other byte and every other element of the state
unchanged (20_memory R44). The written addresses `rxWin`, the undelivered bytes `rxDraws` and the script are the model's
own (log entries 4 and 6). -/
def Obligations.TransportWritesBurst : Prop :=
  ∀ (s : State) (a : Nat) (bytes : List Byte) (rest : List EnvMove), s.cfg.WellFormed →
    s.script = .rx a bytes :: rest → s.phase = .armed → a + bytes.length ≤ s.xferLen.toNat →
    s.xferLen.toNat ≤ s.cfg.fifoCapacity →
    ∃ t, step s = .next t ∧
      (∀ k : Nat, ∀ h : k < bytes.length, rxByte t (a + k) = bytes[k]) ∧
      (∀ k : Nat, ∀ h : k < bytes.length, memRead t.rxbuf (a + k) = some bytes[k]) ∧
      (∀ x, (x < a ∨ a + bytes.length ≤ x) → rxByte t x = rxByte s x ∧ memRead t.rxbuf x = memRead s.rxbuf x) ∧
      t = { s with rxbuf := t.rxbuf, rxWin := t.rxWin, rxDraws := t.rxDraws, script := rest }

/-- The transport has no step outside ARMED, and none at or above XFER_LEN (20_memory R44; 93_implementation_defined U12). The names of
the refusals are the model's (log entry 8). -/
def Obligations.TransportHasNoOtherStep : Prop :=
  ∀ (s : State) (a : Nat) (bytes : List Byte) (rest : List EnvMove), s.cfg.WellFormed →
    s.script = .rx a bytes :: rest →
    (s.phase ≠ .armed → step s = .refused .transportOutsideArmed) ∧
    (s.phase = .armed → s.xferLen.toNat < a + bytes.length → step s = .refused .transportBeyondTransfer)

/-- No operation writes RXBUF, and what a byte reads as, on the status port too, stays the same in every operation, an accepted ARM and a
failed XFD among them; only an XFD in ARMED with `f` = 1 leaves bytes of the burst that the transport did not write unspecified, and no
other byte (20_memory R39, R42, R44, R45, R50). That this is the moment of R45's draw is the model's reading (log entry 6). -/
def Obligations.OperationsNeverWriteRxbuf : Prop :=
  ∀ (i : Instr) (s t : State), exec i s = .next t →
    t.rxbuf = s.rxbuf ∧
    (i ≠ .xfd true ∨ s.phase ≠ .armed → t.statusPort .rxbuf = s.statusPort .rxbuf ∧ ∀ a, rxByte t a = rxByte s a) ∧
    (∀ a, s.xferLen.toNat ≤ a ∨ a ∈ s.rxWin → rxByte t a = rxByte s a)

/-- Outside ARMED no step changes a byte of RXBUF, and in ARMED none changes a byte at or above XFER_LEN, but for power-on, after which
the bytes are arbitrary (20_memory R44, R42; 10_state R33). The moves and how a byte reads are the model's (log entries 4 and 6), and
that the reset input leaves RXBUF is R118. -/
def Obligations.RxbufChangesOnlyInArmed : Prop :=
  ∀ s t : State, step s = .next t → (∀ rest, s.script ≠ .powerOn :: rest) →
    ∀ a, (s.phase ≠ .armed ∨ s.xferLen.toNat ≤ a) →
      rxByte t a = rxByte s a ∧ memRead t.rxbuf a = memRead s.rxbuf a

/-! ## Control operations and reset -/

/-- NOP (43_control_ops R100): legal in every phase, changes nothing, and 0x10 is not NOP but illegal. -/
def Obligations.NopChangesNothing : Prop :=
  (∀ s : State, exec .nop s = .next s) ∧
  (∀ b : Bundle, b.extractLsb' 0 8 = 0x00 → decode b = .ok .nop) ∧
  (∀ b : Bundle, b.extractLsb' 0 8 = 0x10 → ∀ s, issueBundle b s = .next { s with err := { s.err with illegal := true } })

/-- RST (43_control_ops R101): in every phase every register goes to 0, RXBUF and OUT stay, no condition is raised, and a second RST
changes nothing more; the word 0x11 (RST's opcode with `f` = 1) spells no operation. -/
def Obligations.RstClearsEveryRegister : Prop :=
  (∀ b : Bundle, b.extractLsb' 0 8 = 0x01 → decode b = .ok .rst) ∧
  (∀ b : Bundle, b.extractLsb' 0 8 = 0x11 → ∃ e, decode b = .error e) ∧
  (∀ s : State, ∃ t, exec .rst s = .next t ∧ RegistersZero t ∧
    t.rxbuf = s.rxbuf ∧ t.out = s.out ∧ (∀ a, rxByte t a = rxByte s a) ∧
    exec .rst t = .next t)

/-- Hardware reset (10_state R33, 70_reset R118): State.reset has every register 0, OUT empty and the default configuration; the reset
input does what RST does; power-on also empties OUT. The moves are the model's (log entries 4 and 13), the default is log entry 2. -/
def Obligations.HardwareResetValues : Prop :=
  (RegistersZero State.reset ∧ State.reset.out = [] ∧ State.reset.cfg = Cfg.default) ∧
  (∀ (s : State) (rest : List EnvMove), s.cfg.WellFormed → s.script = .hardReset :: rest →
    step s = exec .rst { s with script := rest }) ∧
  (∀ (s : State) (rest : List EnvMove), s.cfg.WellFormed → s.script = .powerOn :: rest →
    ∃ t, step s = .next t ∧ RegistersZero t ∧ t.out = [] ∧ t.cfg = s.cfg ∧ t.script = rest)

/-! ## Count operations -/

/-- CNT (41_count_ops R87, R88, R89): the count is op_b, or 0 where the read failed; the class, the samples, the flush request and the
counters follow from it; outside IDLE it raises SEQ and changes nothing else; the last clause is the boundary table of R89. -/
def Obligations.CntClassifiesAndCounts : Prop :=
  (∀ b : Bundle, b.extractLsb' 0 8 = 0x12 → decode b = .ok (.cnt true (b.extractLsb' 8 16))) ∧
  (∀ b : Bundle, b.extractLsb' 0 8 = 0x02 → decode b = .ok (.cnt false (b.extractLsb' 8 16))) ∧
  ∀ (s : State) (f : Bool) (count : BitVec 16),
    (s.phase = .idle → ∃ t, exec (.cnt f count) s = .next t ∧
      let bc : Nat := if f then count.toNat else 0
      let n : Nat := bc / s.cfg.recordSize
      let overBytes : Prop := s.cfg.fifoCapacity ≤ bc
      let empty : Prop := bc < s.cfg.fifoCapacity ∧ n = 0
      let overBatch : Prop := bc < s.cfg.fifoCapacity ∧ n ≠ 0 ∧ s.cfg.maxBatch < n
      let ok : Prop := bc < s.cfg.fifoCapacity ∧ n ≠ 0 ∧ n ≤ s.cfg.maxBatch
      t.byteCount.toNat = bc ∧
      (overBytes → t.countClass = .ovfBytes ∧ t.samples = 0 ∧ t.flushReq = true) ∧
      (empty → t.countClass = .empty ∧ t.samples = 0 ∧ t.flushReq = s.flushReq) ∧
      (overBatch → t.countClass = .ovfBatch ∧ t.samples = 0 ∧ t.flushReq = true) ∧
      (ok → t.countClass = .ok ∧ t.samples.toNat = n ∧ t.flushReq = s.flushReq) ∧
      (empty → t.fifoEmptyCnt.toNat = min (s.fifoEmptyCnt.toNat + 1) 4294967295) ∧
      (¬ empty → t.fifoEmptyCnt = s.fifoEmptyCnt) ∧
      (overBytes ∨ overBatch → t.fifoOverflowCnt.toNat = min (s.fifoOverflowCnt.toNat + 1) 4294967295) ∧
      (¬ (overBytes ∨ overBatch) → t.fifoOverflowCnt = s.fifoOverflowCnt) ∧
      (f = false → t.badXferCnt.toNat = min (s.badXferCnt.toNat + 1) 4294967295) ∧
      (f = true → t.badXferCnt = s.badXferCnt) ∧
      t = { s with
        byteCount := t.byteCount, samples := t.samples, countClass := t.countClass, flushReq := t.flushReq
        fifoEmptyCnt := t.fifoEmptyCnt, fifoOverflowCnt := t.fifoOverflowCnt, badXferCnt := t.badXferCnt }) ∧
    (s.phase ≠ .idle → exec (.cnt f count) s = .next { s with err := { s.err with seq := true } }) ∧
    (classify Cfg.default 0 = ⟨.empty, 0, false⟩ ∧
      classify Cfg.default 19 = ⟨.empty, 0, false⟩ ∧
      classify Cfg.default 20 = ⟨.ok, 1, false⟩ ∧
      classify Cfg.default 39 = ⟨.ok, 1, false⟩ ∧
      classify Cfg.default 640 = ⟨.ok, 32, false⟩ ∧
      classify Cfg.default 659 = ⟨.ok, 32, false⟩ ∧
      classify Cfg.default 660 = ⟨.ovfBatch, 0, true⟩ ∧
      classify Cfg.default 2047 = ⟨.ovfBatch, 0, true⟩ ∧
      classify Cfg.default 2048 = ⟨.ovfBytes, 0, true⟩ ∧
      classify Cfg.default 65535 = ⟨.ovfBytes, 0, true⟩)

/-- FLA (41_count_ops R92): in IDLE the flush request is cleared and one reset counted, whether or not a flush was pending; outside IDLE
it raises SEQ and changes nothing else. -/
def Obligations.FlaAcknowledgesFlush : Prop :=
  (∀ b : Bundle, b.extractLsb' 0 8 = 0x03 → decode b = .ok .fla) ∧
  (∀ b : Bundle, b.extractLsb' 0 8 = 0x13 → ∃ e, decode b = .error e) ∧
  ∀ s : State,
    (s.phase = .idle → ∃ t, exec .fla s = .next t ∧ t.flushReq = false ∧
      t.fifoResetCnt.toNat = min (s.fifoResetCnt.toNat + 1) 4294967295 ∧
      t = { s with flushReq := t.flushReq, fifoResetCnt := t.fifoResetCnt }) ∧
    (s.phase ≠ .idle → exec .fla s = .next { s with err := { s.err with seq := true } })

/-- While a flush is pending the phase is IDLE, no operation but FLA and RST takes the request back or leaves IDLE or emits anything, and
ARM is refused with SEQ (41_count_ops R90, R91; 95_test_vectors T7). -/
def Obligations.PendingFlushBlocksDrains : Prop :=
  ∀ s : State, SeqInv s → s.flushReq = true →
    s.phase = .idle ∧
    (∀ tm k, exec (.arm tm k) s = .next { s with err := { s.err with seq := true } }) ∧
    (∀ i t, i ≠ .fla → i ≠ .rst → exec i s = .next t → t.flushReq = true ∧ t.phase = .idle ∧ t.out = s.out)

/-! ## Drain operations -/

/-- ARM (42_drain_ops R93, R94): in IDLE with no flush pending and 1 <= K <= MAX_BATCH the drain is set up; otherwise SEQ, then ARG, and
nothing else changes. RXBUF is not written. What ARM does to the model's own `rxWin` is left open here (log entry 6). -/
def Obligations.ArmSetsUpDrain : Prop :=
  (∀ b : Bundle, b.extractLsb' 0 8 = 0x04 → decode b = .ok (.arm (b.extractLsb' 24 64) (b.extractLsb' 8 16))) ∧
  (∀ b : Bundle, b.extractLsb' 0 8 = 0x14 → ∃ e, decode b = .error e) ∧
  (∀ (s : State) (tm : BitVec 64) (k : BitVec 16), s.cfg.WellFormed →
    (s.phase = .idle → s.flushReq = false → 1 ≤ k.toNat → k.toNat ≤ s.cfg.maxBatch →
      ∃ t, exec (.arm tm k) s = .next t ∧
        t.xferLen.toNat = min (k.toNat * s.cfg.recordSize + s.cfg.headerSlack) s.cfg.fifoCapacity ∧
        t.xferLen.toNat = k.toNat * s.cfg.recordSize + s.cfg.headerSlack ∧
        t = { s with
          tLat := tm, kLat := k, xferLen := t.xferLen, idx := 0, validCount := 0, done := false, drainErr := false
          phase := .armed, rxWin := t.rxWin }) ∧
    (s.phase ≠ .idle ∨ s.flushReq = true →
      exec (.arm tm k) s = .next { s with err := { s.err with seq := true } }) ∧
    (s.phase = .idle → s.flushReq = false → k.toNat = 0 ∨ s.cfg.maxBatch < k.toNat →
      exec (.arm tm k) s = .next { s with err := { s.err with arg := true } })) ∧
  (xferLenOf Cfg.default 1 = 24 ∧ xferLenOf Cfg.default 2 = 44 ∧ xferLenOf Cfg.default 10 = 204 ∧
    xferLenOf Cfg.default 32 = 644)

/-- XFD (42_drain_ops R95): in ARMED a success enters DECODING with IDX = K_LAT, a failure ends the drain and counts a bad transfer;
outside ARMED it raises SEQ and changes nothing else. What a success does to the model's own `rxDraws` and `epoch` is left open here
(log entry 6). -/
def Obligations.XfdEndsTransfer : Prop :=
  (∀ b : Bundle, b.extractLsb' 0 8 = 0x15 → decode b = .ok (.xfd true)) ∧
  (∀ b : Bundle, b.extractLsb' 0 8 = 0x05 → decode b = .ok (.xfd false)) ∧
  ∀ s : State,
    (s.phase = .armed → ∃ t, exec (.xfd true) s = .next t ∧
      t = { s with idx := s.kLat, phase := .decoding, rxDraws := t.rxDraws, epoch := t.epoch }) ∧
    (s.phase = .armed → ∃ t, exec (.xfd false) s = .next t ∧
      t.badXferCnt.toNat = min (s.badXferCnt.toNat + 1) 4294967295 ∧
      t = { s with drainErr := true, badXferCnt := t.badXferCnt, phase := .idle }) ∧
    (∀ f, s.phase ≠ .armed → exec (.xfd f) s = .next { s with err := { s.err with seq := true } }) ∧
    (SeqInv s → s.phase = .armed → 1 ≤ s.kLat.toNat ∧ s.validCount = 0 ∧ s.done = false)

/-- DEC (42_drain_ops R96): in DECODING the record below the cursor is decoded as `refDecode` says with integers, its values written
whether or not it is valid, its sample emitted and counted only where it is valid, and the cursor moved; outside DECODING it raises SEQ
and changes nothing else. -/
def Obligations.DecDecodesOneRecord : Prop :=
  (∀ b : Bundle, b.extractLsb' 0 8 = 0x06 → decode b = .ok .dec) ∧
  (∀ b : Bundle, b.extractLsb' 0 8 = 0x16 → ∃ e, decode b = .error e) ∧
  ∀ s : State,
    (SeqInv s → s.phase = .decoding → 1 ≤ s.idx.toNat ∧ ∃ t, exec .dec s = .next t ∧
      let i : Nat := s.idx.toNat - 1
      let r := refDecode s.cfg.accelNibbleHigh (fetchRecord s i)
      t.ax.toInt = r.acc.x ∧ t.ay.toInt = r.acc.y ∧ t.az.toInt = r.acc.z ∧
      t.gx.toInt = r.gyr.x ∧ t.gy.toInt = r.gyr.y ∧ t.gz.toInt = r.gyr.z ∧
      t.tempRaw.toInt = r.temp ∧ t.sflags = r.flags ∧
      (t.ts.toNat : Int) =
        ((s.tLat.toNat : Int) - ((s.kLat.toNat : Int) - 1 - i) * s.cfg.samplePeriodUs) % 2 ^ 64 ∧
      (r.flags.valid = true →
        t.out = s.out ++ [⟨t.ax, t.ay, t.az, t.gx, t.gy, t.gz, t.tempRaw, t.ts, r.flags.coarseA, r.flags.coarseG⟩] ∧
        t.validCount.toNat = s.validCount.toNat + 1) ∧
      (r.flags.valid = false → t.out = s.out ∧ t.validCount = s.validCount) ∧
      t.idx.toNat = i ∧
      (i = 0 → t.phase = .idle ∧ t.done = true) ∧
      (i ≠ 0 → t.phase = .decoding ∧ t.done = s.done) ∧
      t = { s with
        ax := t.ax, ay := t.ay, az := t.az, gx := t.gx, gy := t.gy, gz := t.gz, tempRaw := t.tempRaw, ts := t.ts
        sflags := t.sflags, out := t.out, validCount := t.validCount, idx := t.idx, phase := t.phase, done := t.done }) ∧
    (s.phase ≠ .decoding → exec .dec s = .next { s with err := { s.err with seq := true } })

/-- RUN (42_drain_ops R98): in DECODING it is IDX DECs, and ends in IDLE with IDX = 0, DONE = 1 and record 0's values in the result
registers; outside DECODING it raises SEQ and changes nothing else. -/
def Obligations.RunEqualsRemainingDecs : Prop :=
  (∀ b : Bundle, b.extractLsb' 0 8 = 0x07 → decode b = .ok .run) ∧
  (∀ b : Bundle, b.extractLsb' 0 8 = 0x17 → ∃ e, decode b = .error e) ∧
  ∀ s : State,
    (SeqInv s → s.phase = .decoding → s.idx.toNat ≤ s.cfg.maxBatch ∧
      ∃ t, exec .run s = .next t ∧ decTimes s.idx.toNat s = .next t ∧
      t.phase = .idle ∧ t.idx = 0 ∧ t.done = true ∧
      t.ax = (decodeAt s 0).acc.x ∧ t.ay = (decodeAt s 0).acc.y ∧ t.az = (decodeAt s 0).acc.z ∧
      t.gx = (decodeAt s 0).gyr.x ∧ t.gy = (decodeAt s 0).gyr.y ∧ t.gz = (decodeAt s 0).gyr.z ∧
      t.tempRaw = (decodeAt s 0).temp ∧ t.sflags = (decodeAt s 0).flags ∧ t.ts = tsAt s 0 ∧
      t = { s with
        ax := t.ax, ay := t.ay, az := t.az, gx := t.gx, gy := t.gy, gz := t.gz, tempRaw := t.tempRaw, ts := t.ts
        sflags := t.sflags, out := t.out, validCount := t.validCount, idx := t.idx, phase := t.phase, done := t.done }) ∧
    (s.phase ≠ .decoding → exec .run s = .next { s with err := { s.err with seq := true } })

/-- A RUN emits the valid records among IDX - 1 down to 0, newest first, each with its own timestamp, and counts them; a whole drain
(IDX = K_LAT, nothing counted yet) ends with VALID_COUNT the number of samples emitted, at most K (42_drain_ops R99, which the spec
derives from R83, R93, R95, R96). -/
def Obligations.RunEmitsValidRecordsNewestFirst : Prop :=
  ∀ s : State, SeqInv s → s.phase = .decoding → ∃ t, exec .run s = .next t ∧
    t.out = s.out ++ drainSamples s s.idx.toNat ∧
    t.validCount.toNat = s.validCount.toNat + (drainSamples s s.idx.toNat).length ∧
    t.validCount.toNat ≤ s.kLat.toNat ∧
    t.drainErr = false

/-- Where T covers the span of the batch, the samples of a drain carry strictly decreasing timestamps in emission order
(95_test_vectors T4; 70_reset R125). -/
def Obligations.DrainTimestampsDecrease : Prop :=
  ∀ s : State, SeqInv s → s.phase = .decoding →
    (s.kLat.toNat - 1) * s.cfg.samplePeriodUs ≤ s.tLat.toNat →
    (drainSamples s s.idx.toNat).Pairwise (fun newer older => older.ts.toNat < newer.ts.toNat)

/-- Every byte DEC or RUN reads lies at or above HEADER_SLACK and below XFER_LEN, inside RXBUF (20_memory R38, which the spec derives from
R10, R40, R94; 95_test_vectors T5). -/
def Obligations.DrainReadsBelowXferLen : Prop :=
  ∀ (s : State) (i o : Nat), SeqInv s → s.phase = .decoding → i < s.kLat.toNat → o ∈ s.cfg.offsets.list →
    s.cfg.headerSlack ≤ recordBase s.cfg i + o ∧
    recordBase s.cfg i + o < s.xferLen.toNat ∧
    s.xferLen.toNat ≤ s.cfg.fifoCapacity

/-- Bytes at none of the seventeen offsets of a record of the drain do not matter: two states that differ only in RXBUF and agree on the
read bytes go through DEC and RUN to states that differ only in RXBUF (30_encoding R64; 95_test_vectors T10). How a byte reads rests on
the model's own `rxDraws` and `powerEpoch` (log entry 6). -/
def Obligations.UnreadBytesDoNotMatter : Prop :=
  ∀ (s s' t : State) (i : Instr), i = .dec ∨ i = .run →
    s' = { s with rxbuf := s'.rxbuf, rxWin := s'.rxWin, rxDraws := s'.rxDraws, powerEpoch := s'.powerEpoch } →
    (∀ j < s.idx.toNat, ∀ o ∈ s.cfg.offsets.list,
      rxByte s' (s.cfg.headerSlack + j * s.cfg.recordSize + o) = rxByte s (s.cfg.headerSlack + j * s.cfg.recordSize + o)) →
    exec i s = .next t →
    exec i s' = .next
      { t with rxbuf := s'.rxbuf, rxWin := s'.rxWin, rxDraws := s'.rxDraws, powerEpoch := s'.powerEpoch }

/-- Which byte of RXBUF each field of record i is taken from, and which bytes each packed field and the temperature are made of
(20_memory R40; 30_encoding R59, R62; 40_datapath R71). -/
def Obligations.RecordFieldsComeFromTheirOffsets : Prop :=
  ∀ (s : State) (i : Nat),
    let off := s.cfg.offsets
    let B (o : Nat) : BitVec 8 := rxByte s (s.cfg.headerSlack + i * s.cfg.recordSize + o)
    let accNib (ext : BitVec 8) : BitVec 4 :=
      if s.cfg.accelNibbleHigh = true then ext.extractLsb' 4 4 else ext.extractLsb' 0 4
    let gyrNib (ext : BitVec 8) : BitVec 4 :=
      if s.cfg.accelNibbleHigh = true then ext.extractLsb' 0 4 else ext.extractLsb' 4 4
    let r := fetchRecord s i
    let a20 := accel20 s.cfg.accelNibbleHigh r
    let g20 := gyro20 s.cfg.accelNibbleHigh r
    (r.axes.x.accH = B off.axes.x.accH ∧ r.axes.x.accM = B off.axes.x.accM ∧ r.axes.x.gyrH = B off.axes.x.gyrH ∧
      r.axes.x.gyrM = B off.axes.x.gyrM ∧ r.axes.x.ext = B off.axes.x.ext) ∧
    (r.axes.y.accH = B off.axes.y.accH ∧ r.axes.y.accM = B off.axes.y.accM ∧ r.axes.y.gyrH = B off.axes.y.gyrH ∧
      r.axes.y.gyrM = B off.axes.y.gyrM ∧ r.axes.y.ext = B off.axes.y.ext) ∧
    (r.axes.z.accH = B off.axes.z.accH ∧ r.axes.z.accM = B off.axes.z.accM ∧ r.axes.z.gyrH = B off.axes.z.gyrH ∧
      r.axes.z.gyrM = B off.axes.z.gyrM ∧ r.axes.z.ext = B off.axes.z.ext) ∧
    (r.tH = B off.tH ∧ r.tL = B off.tL) ∧
    (a20.x = reassemble20 (B off.axes.x.accH) (B off.axes.x.accM) (accNib (B off.axes.x.ext)) ∧
      a20.y = reassemble20 (B off.axes.y.accH) (B off.axes.y.accM) (accNib (B off.axes.y.ext)) ∧
      a20.z = reassemble20 (B off.axes.z.accH) (B off.axes.z.accM) (accNib (B off.axes.z.ext))) ∧
    (g20.x = reassemble20 (B off.axes.x.gyrH) (B off.axes.x.gyrM) (gyrNib (B off.axes.x.ext)) ∧
      g20.y = reassemble20 (B off.axes.y.gyrH) (B off.axes.y.gyrM) (gyrNib (B off.axes.y.ext)) ∧
      g20.z = reassemble20 (B off.axes.z.gyrH) (B off.axes.z.gyrM) (gyrNib (B off.axes.z.ext))) ∧
    (decodeAt s i).temp = temp16 (B off.tH) (B off.tL)

/-! ## The datapath -/

/-- `reassemble20` (40_datapath R69): the three parts side by side as a signed 20-bit number, with the corner cases of the rule. -/
def Obligations.ReassembleSignExtends : Prop :=
  (∀ (high mid : BitVec 8) (low : BitVec 4),
    (reassemble20 high mid low).toInt =
      if 524288 ≤ high.toNat * 2 ^ 12 + mid.toNat * 2 ^ 4 + low.toNat
      then (high.toNat * 2 ^ 12 + mid.toNat * 2 ^ 4 + low.toNat : Int) - 1048576
      else (high.toNat * 2 ^ 12 + mid.toNat * 2 ^ 4 + low.toNat : Int)) ∧
  (∀ (high mid : BitVec 8) (low : BitVec 4),
    -524288 ≤ (reassemble20 high mid low).toInt ∧ (reassemble20 high mid low).toInt ≤ 524287) ∧
  (reassemble20 0x00 0x00 0x0).toInt = 0 ∧ (reassemble20 0x7F 0xFF 0xF).toInt = 524287 ∧
  (reassemble20 0x80 0x00 0x0).toInt = -524288 ∧ (reassemble20 0xFF 0xFF 0xF).toInt = -1 ∧
  (reassemble20 0x12 0x34 0x5).toInt = 74565

/-- Splitting a 20-bit value and reassembling it returns it, and the reverse: a bijection (40_datapath R70). -/
def Obligations.ReassembleRoundTrip : Prop :=
  (∀ v : BitVec 32, -524288 ≤ v.toInt → v.toInt ≤ 524287 →
    reassemble20 (v.extractLsb' 12 8) (v.extractLsb' 4 8) (v.extractLsb' 0 4) = v) ∧
  (∀ (high mid : BitVec 8) (low : BitVec 4), pack20 (reassemble20 high mid low) = (high, mid, low))

/-- `temp16` (40_datapath R72): high byte first, with the corner cases of the rule. -/
def Obligations.TempFieldSignExtends : Prop :=
  (∀ hi lo : BitVec 8,
    (temp16 hi lo).toInt =
      if 32768 ≤ hi.toNat * 2 ^ 8 + lo.toNat then (hi.toNat * 2 ^ 8 + lo.toNat : Int) - 65536
      else (hi.toNat * 2 ^ 8 + lo.toNat : Int)) ∧
  (temp16 0x80 0x00).toInt = -32768 ∧ (temp16 0xFF 0xFF).toInt = -1 ∧ (temp16 0x7F 0xFF).toInt = 32767 ∧
  (temp16 0x01 0x2C).toInt = 300

/-- The sentinels by value and by bytes (40_datapath R73, R74): an accelerometer axis at -524288, that is at 0x80, 0x00, nibble 0, makes
ACC_BAD, whatever the gyroscope bytes are; a temperature of -32768, that is 0x80, 0x00, makes TEMP_BAD; VALID is neither (R75). -/
def Obligations.SentinelsByBytes : Prop :=
  ∀ (accelHigh : Bool) (r : RecordBytes),
    let sentinelAxis (q : AxisBytes) : Prop :=
      q.accH = 0x80 ∧ q.accM = 0x00 ∧ (if accelHigh then q.ext.extractLsb' 4 4 else q.ext.extractLsb' 0 4) = (0 : BitVec 4)
    let fl := (decodeRecord accelHigh r).flags
    let a20 := accel20 accelHigh r
    (fl.accBad = true ↔ a20.x.toInt = -524288 ∨ a20.y.toInt = -524288 ∨ a20.z.toInt = -524288) ∧
    (fl.tempBad = true ↔ (temp16 r.tH r.tL).toInt = -32768) ∧
    (fl.accBad = true ↔ sentinelAxis r.axes.x ∨ sentinelAxis r.axes.y ∨ sentinelAxis r.axes.z) ∧
    (fl.tempBad = true ↔ r.tH = 0x80 ∧ r.tL = 0x00) ∧
    (fl.valid = true ↔ fl.accBad = false ∧ fl.tempBad = false)

/-- The accelerometer values are shifted by 2 and the gyroscope values by 1, which is floor division, and the shifted values of the
20-bit fields lie in the ranges R76 gives. -/
def Obligations.ShiftsAreFloorDivision : Prop :=
  (∀ v : Axes (BitVec 32),
    (accel18 v).x.toInt = v.x.toInt / 4 ∧ (accel18 v).y.toInt = v.y.toInt / 4 ∧ (accel18 v).z.toInt = v.z.toInt / 4 ∧
    (gyro19 v).x.toInt = v.x.toInt / 2 ∧ (gyro19 v).y.toInt = v.y.toInt / 2 ∧ (gyro19 v).z.toInt = v.z.toInt / 2) ∧
  (∀ (high mid : BitVec 8) (low : BitVec 4),
    let v := reassemble20 high mid low
    (-131072 ≤ (asr 2 v).toInt ∧ (asr 2 v).toInt ≤ 131071) ∧
    (-262144 ≤ (asr 1 v).toInt ∧ (asr 1 v).toInt ≤ 262143))

/-- The 16-bit overflow test, and the coarse flags by it and in terms of the 20-bit values, per record and per sensor (40_datapath R77). -/
def Obligations.CoarseFlagsFromTwentyBitValues : Prop :=
  (∀ v : BitVec 32, ovf16 v = true ↔ v.toInt < -32768 ∨ 32767 < v.toInt) ∧
  ∀ (accelHigh : Bool) (r : RecordBytes),
    let a20 := accel20 accelHigh r
    let g20 := gyro20 accelHigh r
    let aOut (v : BitVec 32) : Prop := v.toInt < -131072 ∨ 131071 < v.toInt
    let gOut (v : BitVec 32) : Prop := v.toInt < -65536 ∨ 65535 < v.toInt
    let fl := (decodeRecord accelHigh r).flags
    (fl.coarseA = true ↔ ovf16 (asr 2 a20.x) = true ∨ ovf16 (asr 2 a20.y) = true ∨ ovf16 (asr 2 a20.z) = true) ∧
    (fl.coarseG = true ↔ ovf16 (asr 1 g20.x) = true ∨ ovf16 (asr 1 g20.y) = true ∨ ovf16 (asr 1 g20.z) = true) ∧
    (fl.coarseA = true ↔ aOut a20.x ∨ aOut a20.y ∨ aOut a20.z) ∧
    (fl.coarseG = true ↔ gOut g20.x ∨ gOut g20.y ∨ gOut g20.z)

/-- The 16-bit field of an axis is its 20-bit value shifted right by 4 (40_datapath R79, which the spec derives from R69, R76, R78). -/
def Obligations.NarrowFieldIsShiftedField : Prop :=
  ∀ (high mid : BitVec 8) (low : BitVec 4),
    let v := reassemble20 high mid low
    field16 high mid = asr 4 v ∧ field16 high mid = asr 2 (asr 2 v) ∧ field16 high mid = asr 3 (asr 1 v)

/-- Every decoded value lies in the range of R81, X axes in -32768 .. 32767, and ACC_BAD implies COARSE_A (40_datapath R80, R81, R82;
95_test_vectors T2). -/
def Obligations.DecodedValuesInRange : Prop :=
  ∀ (accelHigh : Bool) (r : RecordBytes),
    let d := decodeRecord accelHigh r
    FitsX d.acc.x ∧ FitsYZ d.acc.y ∧ FitsYZ d.acc.z ∧ FitsX d.gyr.x ∧ FitsYZ d.gyr.y ∧ FitsYZ d.gyr.z ∧
    (d.flags.accBad = true → d.flags.coarseA = true)

/-- The timestamp of a record (40_datapath R83, R84): T - (K-1-i)*P modulo 2^64, exactly T for the newest, the product below 2^48, and
the worked examples. -/
def Obligations.TimestampFormula : Prop :=
  (∀ (t : BitVec 64) (k i p : Nat), i < k →
    ((recordTs t k i p).toNat : Int) = ((t.toNat : Int) - ((k - 1 - i) * p : Nat)) % 2 ^ 64) ∧
  (∀ (t : BitVec 64) (k p : Nat), 1 ≤ k → recordTs t k (k - 1) p = t) ∧
  (∀ (t : BitVec 64) (k i p : Nat), i < k → (k - 1 - i) * p ≤ t.toNat →
    (recordTs t k i p).toNat = t.toNat - (k - 1 - i) * p) ∧
  (∀ (c : Cfg) (k i : Nat), c.WellFormed → k ≤ c.maxBatch → (k - 1 - i) * c.samplePeriodUs < 65535 * 2 ^ 32) ∧
  65535 * 2 ^ 32 < 2 ^ 48 ∧
  (recordTs 1000000 3 2 1000 = 1000000 ∧ recordTs 1000000 3 1 1000 = 999000 ∧ recordTs 1000000 3 0 1000 = 998000 ∧
    recordTs 500 2 0 1000 = 18446744073709551116)

/-! ## Scaling -/

/-- The scaling stage (40_datapath R85): exact rationals, the factor chosen by the sample's own coarse flags, applied to emitted samples
only. That `scaling` says whether the stage is used is the model's (log entry 12). -/
def Obligations.ScalingIsExact : Prop :=
  (∀ s : State, s.scaledOut = s.out.map (scaleSample s.cfg)) ∧
  ∀ (c : Cfg) (k : Scaling) (r : OutSample), c.scaling = some k → k.tempSensitivity ≠ 0 →
    ∃ p, scaleSample c r = some p ∧
      (let fa : Rat := if r.coarseA then k.accelCoarse else k.accelFine
       let fg : Rat := if r.coarseG then k.gyroCoarse else k.gyroFine
       p.accel = ⟨r.ax.toInt * fa, r.ay.toInt * fa, r.az.toInt * fa⟩ ∧
       p.gyro = ⟨r.gx.toInt * fg, r.gy.toInt * fg, r.gz.toInt * fg⟩ ∧
       p.temp = r.tempRaw.toInt / k.tempSensitivity + k.tempOffset)

/-- Where the coarse factors are 4 and 8 times the fine ones, a field whose nibble is 0 scales to the same quantity on both paths
(40_datapath R86, which the spec derives from R79). -/
def Obligations.PathsAgreeUnderScaleRatios : Prop :=
  ∀ (k : Scaling) (high mid : BitVec 8), k.accelCoarse = 4 * k.accelFine → k.gyroCoarse = 8 * k.gyroFine →
    scaleBy (accelScale k true) (field16 high mid) = scaleBy (accelScale k false) (asr 2 (reassemble20 high mid 0)) ∧
    scaleBy (gyroScale k true) (field16 high mid) = scaleBy (gyroScale k false) (asr 1 (reassemble20 high mid 0))

/-! ## Conditions, flags, counters, outputs -/

/-- The table of R105 and the test of R106: an operation the table refuses sets ERR.SEQ and changes nothing else; an ARM the table
accepts with K out of range sets ERR.ARG and changes nothing else; every other operation completes and leaves ERR as it was (RST clears
it). The last clause, FLUSH_REQ is 1 only in IDLE, is the spec's own inference ([derived: from rule R87 and rule R93]) and reads off
the premise SeqInv; StepKeepsSequencing is what makes it hold along every run. -/
def Obligations.LegalityTable : Prop :=
  ∀ (i : Instr) (s : State),
    (accepted i s.phase s.flushReq = false → exec i s = .next { s with err := { s.err with seq := true } }) ∧
    (accepted i s.phase s.flushReq = true → ¬ operandsOk s.cfg i →
      exec i s = .next { s with err := { s.err with arg := true } }) ∧
    (accepted i s.phase s.flushReq = true → operandsOk s.cfg i → SeqInv s →
      ∃ t, exec i s = .next t ∧ t.err = (if i = .rst then ⟨false, false, false⟩ else s.err)) ∧
    (SeqInv s → s.flushReq = true → s.phase = .idle)

/-- ERR bits are sticky: only RST clears one, and one operation sets at most one (60_exceptions R107, R109). -/
def Obligations.ErrorBitsAreSticky : Prop :=
  ∀ (i : Instr) (s t : State), i ≠ .rst → exec i s = .next t →
    t.err = s.err ∨ t = { s with err := { s.err with seq := true } } ∨ t = { s with err := { s.err with arg := true } }

/-- STATUS bit by bit with the codes of PHASE and CLASS (10_state R26), the bits of SFLAGS and ERR (R24, R25), the result registers by index
(00_scope R12; R22) and the level outputs (60_exceptions R111). -/
def Obligations.StatusAndFlagBits : Prop :=
  (∀ s : State,
    s.status.extractLsb' 0 2 = (match s.phase with | .idle => 0#2 | .armed => 1#2 | .decoding => 2#2) ∧
    s.status.getLsbD 2 = s.flushReq ∧ s.status.getLsbD 3 = s.done ∧ s.status.getLsbD 4 = s.drainErr ∧
    s.status.extractLsb' 5 3 =
      (match s.countClass with | .none => 0#3 | .ok => 1#3 | .empty => 2#3 | .ovfBytes => 3#3 | .ovfBatch => 4#3)) ∧
  (∀ f : SampleFlags,
    f.bits.getLsbD 0 = f.valid ∧ f.bits.getLsbD 1 = f.accBad ∧ f.bits.getLsbD 2 = f.tempBad ∧
    f.bits.getLsbD 3 = f.coarseA ∧ f.bits.getLsbD 4 = f.coarseG) ∧
  (∀ e : ErrFlags, e.bits.getLsbD 0 = e.illegal ∧ e.bits.getLsbD 1 = e.seq ∧ e.bits.getLsbD 2 = e.arg) ∧
  (∀ s : State, s.res 0 = some s.ax ∧ s.res 1 = some s.ay ∧ s.res 2 = some s.az ∧
    s.res 3 = some s.gx ∧ s.res 4 = some s.gy ∧ s.res 5 = some s.gz ∧ ∀ n, 6 ≤ n → s.res n = none) ∧
  (∀ s : State, s.levels.flushReq = s.flushReq ∧ s.levels.done = s.done ∧ s.levels.drainErr = s.drainErr)

/-- Every element of R13's table is on a status port: what each port shows, and that the ports together show the whole state, since two
states whose ports all show the same agree in every element (10_state R13; 60_exceptions R116). That RXBUF and OUT have unnumbered ports
that show them whole, and that PHASE, FLUSH_REQ, DONE, DRAIN_ERR and CLASS are shown by STATUS, is the model's reading (log entry 22);
how a byte reads is log entry 6. -/
def Obligations.EveryElementIsOnAStatusPort : Prop :=
  (∀ s : State,
    s.statusPort (.register .status) = s.status ∧ s.statusPort (.register .err) = s.err.bits ∧
    s.statusPort (.register .byteCount) = s.byteCount ∧ s.statusPort (.register .samples) = s.samples ∧
    s.statusPort (.register .xferLen) = s.xferLen ∧ s.statusPort (.register .kLat) = s.kLat ∧
    s.statusPort (.register .idx) = s.idx ∧ s.statusPort (.register .validCount) = s.validCount ∧
    s.statusPort (.register .tLat) = s.tLat ∧ s.statusPort (.register .ts) = s.ts ∧
    s.statusPort (.register .ax) = s.ax ∧ s.statusPort (.register .ay) = s.ay ∧ s.statusPort (.register .az) = s.az ∧
    s.statusPort (.register .gx) = s.gx ∧ s.statusPort (.register .gy) = s.gy ∧ s.statusPort (.register .gz) = s.gz ∧
    s.statusPort (.register .tempRaw) = s.tempRaw ∧ s.statusPort (.register .sflags) = s.sflags.bits ∧
    s.statusPort (.register .fifoEmptyCnt) = s.fifoEmptyCnt ∧ s.statusPort (.register .fifoOverflowCnt) = s.fifoOverflowCnt ∧
    s.statusPort (.register .fifoResetCnt) = s.fifoResetCnt ∧ s.statusPort (.register .badXferCnt) = s.badXferCnt ∧
    s.statusPort .out = s.out ∧
    (s.statusPort .rxbuf).length = s.cfg.fifoCapacity ∧
    ∀ a, a < s.cfg.fifoCapacity → (s.statusPort .rxbuf)[a]? = some (rxByte s a)) ∧
  (∀ s t : State, (∀ p : StatusPort, s.statusPort p = t.statusPort p) →
    s.phase = t.phase ∧ s.idx = t.idx ∧ s.kLat = t.kLat ∧ s.tLat = t.tLat ∧ s.xferLen = t.xferLen ∧
    s.byteCount = t.byteCount ∧ s.samples = t.samples ∧ s.countClass = t.countClass ∧ s.flushReq = t.flushReq ∧
    s.done = t.done ∧ s.drainErr = t.drainErr ∧ s.validCount = t.validCount ∧
    s.ax = t.ax ∧ s.ay = t.ay ∧ s.az = t.az ∧ s.gx = t.gx ∧ s.gy = t.gy ∧ s.gz = t.gz ∧
    s.tempRaw = t.tempRaw ∧ s.ts = t.ts ∧ s.sflags = t.sflags ∧ s.err = t.err ∧
    s.fifoEmptyCnt = t.fifoEmptyCnt ∧ s.fifoOverflowCnt = t.fifoOverflowCnt ∧ s.fifoResetCnt = t.fifoResetCnt ∧
    s.badXferCnt = t.badXferCnt ∧ s.out = t.out ∧ ∀ a, a < s.cfg.fifoCapacity → rxByte s a = rxByte t a)

/-- A saturating increment adds one below 4294967295 and stays there (10_state R27). -/
def Obligations.CounterSaturates : Prop :=
  ∀ c : BitVec 32,
    (c.toNat < 4294967295 → (satInc c).toNat = c.toNat + 1) ∧
    (c.toNat = 4294967295 → satInc c = c)

/-- The table of R31: the number, width and reset value of every register, and that an operation the column "Written by" does not name
leaves the register as it is; RXBUF is written by no operation, OUT only by DEC and RUN, and RST keeps both. -/
def Obligations.RegisterTable : Prop :=
  ([Port.status, .err, .byteCount, .samples, .xferLen, .kLat, .idx, .validCount, .tLat, .ts, .ax, .ay, .az, .gx, .gy, .gz,
      .tempRaw, .sflags, .fifoEmptyCnt, .fifoOverflowCnt, .fifoResetCnt, .badXferCnt].map fun p => (p.number, p.width)) =
    [(0, 8), (1, 3), (2, 16), (3, 16), (4, 16), (5, 16), (6, 16), (7, 16), (8, 64), (9, 64), (10, 32), (11, 32), (12, 32), (13, 32),
      (14, 32), (15, 32), (16, 16), (17, 5), (18, 32), (19, 32), (20, 32), (21, 32)] ∧
  (∀ p : Port, State.reset.port p = 0) ∧ State.reset.out = [] ∧
  ∀ (i : Instr) (s t : State), exec i s = .next t →
    let isCnt : Prop := ∃ f c, i = .cnt f c
    let isArm : Prop := ∃ tm k, i = .arm tm k
    let isXfd : Prop := ∃ f, i = .xfd f
    t.rxbuf = s.rxbuf ∧
    (i ≠ .dec → i ≠ .run → t.out = s.out) ∧
    (i ≠ .rst →
      (¬ isCnt → t.byteCount = s.byteCount ∧ t.samples = s.samples ∧ t.countClass = s.countClass ∧
        t.fifoEmptyCnt = s.fifoEmptyCnt ∧ t.fifoOverflowCnt = s.fifoOverflowCnt) ∧
      (¬ isArm → t.xferLen = s.xferLen ∧ t.kLat = s.kLat ∧ t.tLat = s.tLat) ∧
      (¬ isArm → ¬ isXfd → i ≠ .dec → i ≠ .run → t.idx = s.idx ∧ t.phase = s.phase) ∧
      (¬ isArm → i ≠ .dec → i ≠ .run → t.validCount = s.validCount) ∧
      (i ≠ .dec → i ≠ .run → t.ts = s.ts ∧ t.ax = s.ax ∧ t.ay = s.ay ∧ t.az = s.az ∧ t.gx = s.gx ∧ t.gy = s.gy ∧ t.gz = s.gz ∧
        t.tempRaw = s.tempRaw ∧ t.sflags = s.sflags) ∧
      (i ≠ .fla → t.fifoResetCnt = s.fifoResetCnt) ∧
      (¬ isCnt → ¬ isXfd → t.badXferCnt = s.badXferCnt))

/-- No step but a reset lowers a counter (10_state R27, R28; 95_test_vectors T9). The moves are the model's (log entry 4). -/
def Obligations.CountersNeverDecrease : Prop :=
  ∀ s t : State, step s = .next t →
    (∀ rest, s.script ≠ .hardReset :: rest) → (∀ rest, s.script ≠ .powerOn :: rest) →
    (∀ b rest, s.script = .issue b :: rest → decode b ≠ .ok .rst) →
    s.fifoEmptyCnt.toNat ≤ t.fifoEmptyCnt.toNat ∧ s.fifoOverflowCnt.toNat ≤ t.fifoOverflowCnt.toNat ∧
    s.fifoResetCnt.toNat ≤ t.fifoResetCnt.toNat ∧ s.badXferCnt.toNat ≤ t.badXferCnt.toNat

/-- OUT is append-only, and only DEC and RUN append to it: no other move but power-on changes it (10_state R30, R31).
The moves are the model's (log entry 4). That OUT survives the reset input (the move hardReset) is the model's reading of R118,
marked DEDUCED (log entry 13). -/
def Obligations.OutputIsAppendOnly : Prop :=
  ∀ s t : State, step s = .next t → (∀ rest, s.script ≠ .powerOn :: rest) →
    s.out <+: t.out ∧
    ((∀ b rest, s.script = .issue b :: rest → decode b ≠ .ok .dec ∧ decode b ≠ .ok .run) → t.out = s.out)

/-- The pseudo-operations expand as R68 says: the two bytes of READCOUNT make one big-endian count word, and DRAIN is ARM, XFD and, where
the transfer succeeded, RUN (30_encoding R68). -/
def Obligations.PseudoOperationsExpand : Prop :=
  (∀ (b0 b1 : BitVec 8) (ok : Bool), ∃ count : BitVec 16, count.toNat = b0.toNat * 256 + b1.toNat ∧
    (ScriptLine.readCount b0 b1 ok).instrs = [.cnt ok count]) ∧
  (∀ (t : BitVec 64) (k : BitVec 16),
    (ScriptLine.drain t k true).instrs = [.arm t k, .xfd true, .run] ∧
    (ScriptLine.drain t k false).instrs = [.arm t k, .xfd false])

/-! ## Invariants -/

/-- The state after power-on meets every invariant, for every well-formed configuration (10_state R33). -/
def Obligations.ResetMeetsInvariants : Prop :=
  ∀ c : Cfg, c.WellFormed →
    SeqInv (State.resetWith c) ∧ RxInv (State.resetWith c) ∧ ResultInv (State.resetWith c) ∧
    OutInv (State.resetWith c) ∧ CountInv (State.resetWith c)

/-- Every step keeps the sequencing invariant (10_state R16, R21; 42_drain_ops R99; 60_exceptions R105). -/
def Obligations.StepKeepsSequencing : Prop :=
  ∀ s t : State, SeqInv s → step s = .next t → SeqInv t

/-- Every step keeps RXBUF in canonical form and inside FIFO_CAPACITY (20_memory R36, R44). The form is the model's (log entry 6). -/
def Obligations.StepKeepsRxbufForm : Prop :=
  ∀ s t : State, RxInv s → step s = .next t → RxInv t

/-- Every step keeps the result registers in the range of R81 and the flags consistent (10_state R24; 40_datapath R81, R82). -/
def Obligations.StepKeepsResultRange : Prop :=
  ∀ s t : State, ResultInv s → step s = .next t → ResultInv t

/-- Every step keeps every emitted sample in range and off the temperature sentinel (95_test_vectors T2, T3). -/
def Obligations.StepKeepsEmittedSamples : Prop :=
  ∀ s t : State, OutInv s → step s = .next t → OutInv t

/-- Every step keeps CLASS and SAMPLES those of BYTE_COUNT (10_state R18, R19). -/
def Obligations.StepKeepsCountRegisters : Prop :=
  ∀ s t : State, CountInv s → step s = .next t → CountInv t
end

