-- ==== Sys2Proof/Laws/Datapath.lean ====
section
/-! SUPPORT. The datapath and count functions as arithmetic on numbers: the parts of a field, the shifts, the flag tests, the saturating increment, and the room a batch needs. -/

namespace Sys2Proof.Machine

/-- The three parts of a packed field side by side are a sum (40_datapath R69). -/
theorem packedParts_toNat (h m : Byte) (n : Nibble) :
    ((h.setWidth 32 <<< 12) ||| (m.setWidth 32 <<< 4) ||| n.setWidth 32 : W32).toNat =
      h.toNat * 4096 + m.toNat * 16 + n.toNat := by
  have hh := h.isLt
  have hm := m.isLt
  have hn := n.isLt
  simp only [BitVec.toNat_or, BitVec.toNat_shiftLeft, BitVec.toNat_setWidth]
  rw [Nat.mod_eq_of_lt (show h.toNat < 2 ^ 32 by omega), Nat.mod_eq_of_lt (show m.toNat < 2 ^ 32 by omega),
    Nat.mod_eq_of_lt (show n.toNat < 2 ^ 32 by omega)]
  have e1 : h.toNat <<< 12 = h.toNat * 4096 := by rw [Nat.shiftLeft_eq]
  have e2 : m.toNat <<< 4 = m.toNat * 16 := by rw [Nat.shiftLeft_eq]
  rw [Nat.mod_eq_of_lt (by omega), Nat.mod_eq_of_lt (by omega),
    ← Nat.shiftLeft_add_eq_or_of_lt (show m.toNat <<< 4 < 2 ^ 12 by omega)]
  have e3 : h.toNat <<< 12 + m.toNat <<< 4 = (h.toNat * 256 + m.toNat) <<< 4 := by
    rw [Nat.shiftLeft_eq, Nat.shiftLeft_eq, Nat.shiftLeft_eq]; omega
  rw [e3, ← Nat.shiftLeft_add_eq_or_of_lt (show n.toNat < 2 ^ 4 by omega), Nat.shiftLeft_eq]; omega

/-- Bit 19 of a 20-bit number is its sign (40_datapath R61, R69). -/
theorem signBit19 (u : W32) (h : u.toNat < 1048576) : u.getLsbD 19 = decide (524288 ≤ u.toNat) := by
  rw [BitVec.getLsbD, Nat.testBit_eq_decide_div_mod_eq]
  congr 1
  apply propext
  omega

/-- Two bytes, high byte first, are a sum (40_datapath R72). -/
theorem temp16_toNat (h m : Byte) : (temp16 h m).toNat = h.toNat * 256 + m.toNat := by
  have hm := m.isLt
  unfold temp16
  show (h ++ m : BitVec (8 + 8)).toNat = _
  rw [BitVec.toNat_append, ← Nat.shiftLeft_add_eq_or_of_lt (by omega), Nat.shiftLeft_eq]

/-- An arithmetic shift is floor division by a power of two (00_scope R11). -/
theorem asr_toInt (n : Nat) (v : W32) : (asr n v).toInt = v.toInt / 2 ^ n := by
  unfold asr
  rw [BitVec.toInt_sshiftRight, Int.shiftRight_eq_div_pow]; norm_cast

theorem any_eq_true {α : Type} (p : α → Bool) (v : Axes α) :
    v.any p = true ↔ p v.x = true ∨ p v.y = true ∨ p v.z = true := by
  simp [Axes.any, or_assoc]

theorem ovf16_eq_true (v : W32) : ovf16 v = true ↔ v.toInt < -32768 ∨ 32767 < v.toInt := by
  simp [ovf16]

/-- A saturating increment is a minimum (10_state R27). -/
theorem satInc_eq_min (c : W32) : (satInc c).toNat = min (c.toNat + 1) 4294967295 := by
  have := c.isLt
  have h1 : (1 : W32).toNat = 1 := rfl
  unfold satInc; split
  · rw [BitVec.toNat_add, h1]; omega
  · omega

/-- A batch that a well-formed configuration allows fits the buffer, and the buffer's size fits 16 bits (00_scope R10). -/
theorem batch_fits {c : Cfg} (h : c.WellFormed) {k : Nat} (hk : k ≤ c.maxBatch) :
    k * c.recordSize + c.headerSlack ≤ c.fifoCapacity ∧ c.fifoCapacity ≤ 65535 := by
  have h1 := h.2.2.2.1
  have h2 := h.2.2.2.2.1
  have h3 : k * c.recordSize ≤ c.maxBatch * c.recordSize := Nat.mul_le_mul_right _ hk
  exact ⟨by omega, h2⟩

/-- Every field of a record of such a batch lies below the length of the batch (20_memory R38, R40). -/
theorem field_below {c : Cfg} (h : c.WellFormed) {k i o : Nat} (hi : i < k) (ho : o ∈ c.offsets.list) :
    recordBase c i + o < k * c.recordSize + c.headerSlack := by
  have h1 : o < c.recordSize := h.2.1 o ho
  have h2 : (i + 1) * c.recordSize ≤ k * c.recordSize := Nat.mul_le_mul_right _ hi
  have h3 : (i + 1) * c.recordSize = i * c.recordSize + c.recordSize := Nat.succ_mul _ _
  unfold recordBase; omega

/-- So every record of such a batch is inside RXBUF. -/
theorem recordInBuffer_of_lt {c : Cfg} (h : c.WellFormed) {k i : Nat} (hk : k ≤ c.maxBatch) (hi : i < k) :
    recordInBuffer c i = true := by
  unfold recordInBuffer
  rw [List.all_eq_true]
  intro o ho
  have h1 := field_below h hi ho
  have h2 := (batch_fits h hk).1
  simp; omega

/-- The decode of a record depends on nothing but the bytes read, and these on nothing but the buffer, the undelivered bytes, the draw of
the last power-on and the configuration. -/
theorem decodeAt_congr {s t : State} (i : Nat) (h1 : s.rxbuf = t.rxbuf) (h2 : s.rxDraws = t.rxDraws)
    (h3 : s.powerEpoch = t.powerEpoch) (h4 : s.cfg = t.cfg) : decodeAt s i = decodeAt t i := by
  simp only [decodeAt, fetchRecord, rxByte, h1, h2, h3, h4]

theorem tsAt_congr {s t : State} (i : Nat) (h1 : s.tLat = t.tLat) (h2 : s.kLat = t.kLat) (h3 : s.cfg = t.cfg) :
    tsAt s i = tsAt t i := by
  simp only [tsAt, h1, h2, h3]

/-- Two readings that agree on the seventeen offsets give the same bytes (30_encoding R64). -/
theorem recordBytes_congr {f g : Nat → Byte} (o : Offsets) (h : ∀ x ∈ o.list, f x = g x) :
    recordBytes f o = recordBytes g o := by
  simp only [Offsets.list, AxisOffsets.list, List.mem_append, List.mem_cons, List.not_mem_nil, or_false] at h
  simp only [recordBytes, Axes.map, axisBytes]
  simp only [RecordBytes.mk.injEq, Axes.mk.injEq, AxisBytes.mk.injEq]
  refine ⟨⟨⟨?_, ?_, ?_, ?_, ?_⟩, ⟨?_, ?_, ?_, ?_, ?_⟩, ?_, ?_, ?_, ?_, ?_⟩, ?_, ?_⟩ <;> exact h _ (by simp)

end Sys2Proof.Machine
end

