-- ==== Sys2Proof/Laws/Decode.lean ====
section
/-! SUPPORT. The fields of a bundle built from three fields (spec 30_encoding R53), the three fields of any bundle, and the legal command words one by one. -/

namespace Sys2Proof

/-- The bits of a bundle built from three fields. -/
theorem getLsbD_bundleOf (a : W64) (b : W16) (c : Byte) (i : Nat) :
    (bundleOf a b c).getLsbD i =
      if i < 8 then c.getLsbD i else if i < 24 then b.getLsbD (i - 8) else a.getLsbD (i - 24) := by
  show ((a ++ b ++ c : BitVec (64 + 16 + 8))).getLsbD i = _
  simp only [BitVec.getLsbD_append, Nat.sub_sub, show i - 8 < 16 ↔ i < 24 by omega]

@[simp] theorem cmd_bundleOf (a : W64) (b : W16) (c : Byte) : Bundle.cmd (bundleOf a b c) = c := by
  refine BitVec.eq_of_getLsbD_eq fun i hi => ?_
  simp [Bundle.cmd, getLsbD_bundleOf, hi]

@[simp] theorem opB_bundleOf (a : W64) (b : W16) (c : Byte) : Bundle.opB (bundleOf a b c) = b := by
  refine BitVec.eq_of_getLsbD_eq fun i hi => ?_
  simp [Bundle.opB, getLsbD_bundleOf, hi, show 8 + i < 24 by omega]

@[simp] theorem opA_bundleOf (a : W64) (b : W16) (c : Byte) : Bundle.opA (bundleOf a b c) = a := by
  refine BitVec.eq_of_getLsbD_eq fun i hi => ?_
  simp [Bundle.opA, getLsbD_bundleOf, hi, show ¬ 24 + i < 8 by omega]

/-- A bundle is its three fields side by side (R53). -/
theorem bundleOf_fields (b : Bundle) : bundleOf (Bundle.opA b) (Bundle.opB b) (Bundle.cmd b) = b := by
  refine BitVec.eq_of_getLsbD_eq fun i hi => ?_
  rw [getLsbD_bundleOf]
  simp only [Bundle.opA, Bundle.opB, Bundle.cmd, BitVec.getLsbD_extractLsb']
  split
  · simp [*]
  · split
    · rw [show 8 + (i - 8) = i by omega]; simp; omega
    · rw [show 24 + (i - 24) = i by omega]; simp; omega

/-- The decoder looks at the three fields only. -/
theorem decode_bundleOf (a : W64) (b : W16) (c : Byte) :
    decode (bundleOf a b c) =
      if cmdRsv c = 0 then decodeOpc (cmdOpc c) (cmdF c) a b else .error .reservedBits := by
  simp [decode]

/-- The decoder of a bundle whose command word has these three fields. -/
theorem decode_of_fields {a : W64} {b : W16} {c : Byte} {o : BitVec 4} {f : Bool}
    (hr : cmdRsv c = 0) (ho : cmdOpc c = o) (hf : cmdF c = f) : decode (bundleOf a b c) = decodeOpc o f a b := by
  rw [decode_bundleOf, if_pos hr, ho, hf]

/-- What each legal command word of R56 decodes to, whatever the operands. -/
theorem decode_word_nop (a : W64) (b : W16) : decode (bundleOf a b 0x00) = .ok .nop :=
  (decode_of_fields (o := 0) (f := false) (by decide) (by decide) (by decide)).trans rfl
theorem decode_word_rst (a : W64) (b : W16) : decode (bundleOf a b 0x01) = .ok .rst :=
  (decode_of_fields (o := 1) (f := false) (by decide) (by decide) (by decide)).trans rfl
theorem decode_word_cntFail (a : W64) (b : W16) : decode (bundleOf a b 0x02) = .ok (.cnt false b) :=
  (decode_of_fields (o := 2) (f := false) (by decide) (by decide) (by decide)).trans rfl
theorem decode_word_cntOk (a : W64) (b : W16) : decode (bundleOf a b 0x12) = .ok (.cnt true b) :=
  (decode_of_fields (o := 2) (f := true) (by decide) (by decide) (by decide)).trans rfl
theorem decode_word_fla (a : W64) (b : W16) : decode (bundleOf a b 0x03) = .ok .fla :=
  (decode_of_fields (o := 3) (f := false) (by decide) (by decide) (by decide)).trans rfl
theorem decode_word_arm (a : W64) (b : W16) : decode (bundleOf a b 0x04) = .ok (.arm a b) :=
  (decode_of_fields (o := 4) (f := false) (by decide) (by decide) (by decide)).trans rfl
theorem decode_word_xfdFail (a : W64) (b : W16) : decode (bundleOf a b 0x05) = .ok (.xfd false) :=
  (decode_of_fields (o := 5) (f := false) (by decide) (by decide) (by decide)).trans rfl
theorem decode_word_xfdOk (a : W64) (b : W16) : decode (bundleOf a b 0x15) = .ok (.xfd true) :=
  (decode_of_fields (o := 5) (f := true) (by decide) (by decide) (by decide)).trans rfl
theorem decode_word_dec (a : W64) (b : W16) : decode (bundleOf a b 0x06) = .ok .dec :=
  (decode_of_fields (o := 6) (f := false) (by decide) (by decide) (by decide)).trans rfl
theorem decode_word_run (a : W64) (b : W16) : decode (bundleOf a b 0x07) = .ok .run :=
  (decode_of_fields (o := 7) (f := false) (by decide) (by decide) (by decide)).trans rfl

/-- An operation's command word is one of the ten (R57). -/
theorem cmd_mem_legalWords (i : Instr) : i.cmd ∈ legalWords := by
  cases i with
  | cnt f _ => cases f <;> simp [Instr.cmd, legalWords]
  | xfd f => cases f <;> simp [Instr.cmd, legalWords]
  | _ => simp [Instr.cmd, legalWords]

end Sys2Proof
end

