-- ==== Sys2Proof/Laws/State.lean ====
section
/-! SUPPORT. One lemma per field and named update of the state: what the update leaves in that field. No later proof unfolds a record update. -/

namespace Sys2Proof.Machine

section resetWith
variable (c : Cfg)
@[simp] theorem resetWith_phase : (State.resetWith c).phase = .idle := rfl
@[simp] theorem resetWith_idx : (State.resetWith c).idx = 0 := rfl
@[simp] theorem resetWith_kLat : (State.resetWith c).kLat = 0 := rfl
@[simp] theorem resetWith_tLat : (State.resetWith c).tLat = 0 := rfl
@[simp] theorem resetWith_xferLen : (State.resetWith c).xferLen = 0 := rfl
@[simp] theorem resetWith_byteCount : (State.resetWith c).byteCount = 0 := rfl
@[simp] theorem resetWith_samples : (State.resetWith c).samples = 0 := rfl
@[simp] theorem resetWith_countClass : (State.resetWith c).countClass = .none := rfl
@[simp] theorem resetWith_flushReq : (State.resetWith c).flushReq = false := rfl
@[simp] theorem resetWith_done : (State.resetWith c).done = false := rfl
@[simp] theorem resetWith_drainErr : (State.resetWith c).drainErr = false := rfl
@[simp] theorem resetWith_validCount : (State.resetWith c).validCount = 0 := rfl
@[simp] theorem resetWith_ax : (State.resetWith c).ax = 0 := rfl
@[simp] theorem resetWith_ay : (State.resetWith c).ay = 0 := rfl
@[simp] theorem resetWith_az : (State.resetWith c).az = 0 := rfl
@[simp] theorem resetWith_gx : (State.resetWith c).gx = 0 := rfl
@[simp] theorem resetWith_gy : (State.resetWith c).gy = 0 := rfl
@[simp] theorem resetWith_gz : (State.resetWith c).gz = 0 := rfl
@[simp] theorem resetWith_tempRaw : (State.resetWith c).tempRaw = 0 := rfl
@[simp] theorem resetWith_ts : (State.resetWith c).ts = 0 := rfl
@[simp] theorem resetWith_sflags : (State.resetWith c).sflags = ⟨false, false, false, false, false⟩ := rfl
@[simp] theorem resetWith_err : (State.resetWith c).err = ⟨false, false, false⟩ := rfl
@[simp] theorem resetWith_fifoEmptyCnt : (State.resetWith c).fifoEmptyCnt = 0 := rfl
@[simp] theorem resetWith_fifoOverflowCnt : (State.resetWith c).fifoOverflowCnt = 0 := rfl
@[simp] theorem resetWith_fifoResetCnt : (State.resetWith c).fifoResetCnt = 0 := rfl
@[simp] theorem resetWith_badXferCnt : (State.resetWith c).badXferCnt = 0 := rfl
@[simp] theorem resetWith_rxbuf : (State.resetWith c).rxbuf = [] := rfl
@[simp] theorem resetWith_out : (State.resetWith c).out = [] := rfl
@[simp] theorem resetWith_cfg : (State.resetWith c).cfg = c := rfl
@[simp] theorem resetWith_rxWin : (State.resetWith c).rxWin = [] := rfl
@[simp] theorem resetWith_rxDraws : (State.resetWith c).rxDraws = [] := rfl
@[simp] theorem resetWith_powerEpoch : (State.resetWith c).powerEpoch = 0 := rfl
@[simp] theorem resetWith_epoch : (State.resetWith c).epoch = 0 := rfl
@[simp] theorem resetWith_script : (State.resetWith c).script = [] := rfl
end resetWith

section raiseState
variable (c : Condition) (s : State)
@[simp] theorem raiseState_phase : (raiseState c s).phase = s.phase := rfl
@[simp] theorem raiseState_idx : (raiseState c s).idx = s.idx := rfl
@[simp] theorem raiseState_kLat : (raiseState c s).kLat = s.kLat := rfl
@[simp] theorem raiseState_tLat : (raiseState c s).tLat = s.tLat := rfl
@[simp] theorem raiseState_xferLen : (raiseState c s).xferLen = s.xferLen := rfl
@[simp] theorem raiseState_byteCount : (raiseState c s).byteCount = s.byteCount := rfl
@[simp] theorem raiseState_samples : (raiseState c s).samples = s.samples := rfl
@[simp] theorem raiseState_countClass : (raiseState c s).countClass = s.countClass := rfl
@[simp] theorem raiseState_flushReq : (raiseState c s).flushReq = s.flushReq := rfl
@[simp] theorem raiseState_done : (raiseState c s).done = s.done := rfl
@[simp] theorem raiseState_drainErr : (raiseState c s).drainErr = s.drainErr := rfl
@[simp] theorem raiseState_validCount : (raiseState c s).validCount = s.validCount := rfl
@[simp] theorem raiseState_ax : (raiseState c s).ax = s.ax := rfl
@[simp] theorem raiseState_ay : (raiseState c s).ay = s.ay := rfl
@[simp] theorem raiseState_az : (raiseState c s).az = s.az := rfl
@[simp] theorem raiseState_gx : (raiseState c s).gx = s.gx := rfl
@[simp] theorem raiseState_gy : (raiseState c s).gy = s.gy := rfl
@[simp] theorem raiseState_gz : (raiseState c s).gz = s.gz := rfl
@[simp] theorem raiseState_tempRaw : (raiseState c s).tempRaw = s.tempRaw := rfl
@[simp] theorem raiseState_ts : (raiseState c s).ts = s.ts := rfl
@[simp] theorem raiseState_sflags : (raiseState c s).sflags = s.sflags := rfl
@[simp] theorem raiseState_err : (raiseState c s).err = setCondition c s.err := rfl
@[simp] theorem raiseState_fifoEmptyCnt : (raiseState c s).fifoEmptyCnt = s.fifoEmptyCnt := rfl
@[simp] theorem raiseState_fifoOverflowCnt : (raiseState c s).fifoOverflowCnt = s.fifoOverflowCnt := rfl
@[simp] theorem raiseState_fifoResetCnt : (raiseState c s).fifoResetCnt = s.fifoResetCnt := rfl
@[simp] theorem raiseState_badXferCnt : (raiseState c s).badXferCnt = s.badXferCnt := rfl
@[simp] theorem raiseState_rxbuf : (raiseState c s).rxbuf = s.rxbuf := rfl
@[simp] theorem raiseState_out : (raiseState c s).out = s.out := rfl
@[simp] theorem raiseState_cfg : (raiseState c s).cfg = s.cfg := rfl
@[simp] theorem raiseState_rxWin : (raiseState c s).rxWin = s.rxWin := rfl
@[simp] theorem raiseState_rxDraws : (raiseState c s).rxDraws = s.rxDraws := rfl
@[simp] theorem raiseState_powerEpoch : (raiseState c s).powerEpoch = s.powerEpoch := rfl
@[simp] theorem raiseState_epoch : (raiseState c s).epoch = s.epoch := rfl
@[simp] theorem raiseState_script : (raiseState c s).script = s.script := rfl
end raiseState

section resetRegisters
variable (s : State)
@[simp] theorem resetRegisters_phase : (resetRegisters s).phase = .idle := rfl
@[simp] theorem resetRegisters_idx : (resetRegisters s).idx = 0 := rfl
@[simp] theorem resetRegisters_kLat : (resetRegisters s).kLat = 0 := rfl
@[simp] theorem resetRegisters_tLat : (resetRegisters s).tLat = 0 := rfl
@[simp] theorem resetRegisters_xferLen : (resetRegisters s).xferLen = 0 := rfl
@[simp] theorem resetRegisters_byteCount : (resetRegisters s).byteCount = 0 := rfl
@[simp] theorem resetRegisters_samples : (resetRegisters s).samples = 0 := rfl
@[simp] theorem resetRegisters_countClass : (resetRegisters s).countClass = .none := rfl
@[simp] theorem resetRegisters_flushReq : (resetRegisters s).flushReq = false := rfl
@[simp] theorem resetRegisters_done : (resetRegisters s).done = false := rfl
@[simp] theorem resetRegisters_drainErr : (resetRegisters s).drainErr = false := rfl
@[simp] theorem resetRegisters_validCount : (resetRegisters s).validCount = 0 := rfl
@[simp] theorem resetRegisters_ax : (resetRegisters s).ax = 0 := rfl
@[simp] theorem resetRegisters_ay : (resetRegisters s).ay = 0 := rfl
@[simp] theorem resetRegisters_az : (resetRegisters s).az = 0 := rfl
@[simp] theorem resetRegisters_gx : (resetRegisters s).gx = 0 := rfl
@[simp] theorem resetRegisters_gy : (resetRegisters s).gy = 0 := rfl
@[simp] theorem resetRegisters_gz : (resetRegisters s).gz = 0 := rfl
@[simp] theorem resetRegisters_tempRaw : (resetRegisters s).tempRaw = 0 := rfl
@[simp] theorem resetRegisters_ts : (resetRegisters s).ts = 0 := rfl
@[simp] theorem resetRegisters_sflags : (resetRegisters s).sflags = ⟨false, false, false, false, false⟩ := rfl
@[simp] theorem resetRegisters_err : (resetRegisters s).err = ⟨false, false, false⟩ := rfl
@[simp] theorem resetRegisters_fifoEmptyCnt : (resetRegisters s).fifoEmptyCnt = 0 := rfl
@[simp] theorem resetRegisters_fifoOverflowCnt : (resetRegisters s).fifoOverflowCnt = 0 := rfl
@[simp] theorem resetRegisters_fifoResetCnt : (resetRegisters s).fifoResetCnt = 0 := rfl
@[simp] theorem resetRegisters_badXferCnt : (resetRegisters s).badXferCnt = 0 := rfl
@[simp] theorem resetRegisters_rxbuf : (resetRegisters s).rxbuf = s.rxbuf := rfl
@[simp] theorem resetRegisters_out : (resetRegisters s).out = s.out := rfl
@[simp] theorem resetRegisters_cfg : (resetRegisters s).cfg = s.cfg := rfl
@[simp] theorem resetRegisters_rxWin : (resetRegisters s).rxWin = s.rxWin := rfl
@[simp] theorem resetRegisters_rxDraws : (resetRegisters s).rxDraws = s.rxDraws := rfl
@[simp] theorem resetRegisters_powerEpoch : (resetRegisters s).powerEpoch = s.powerEpoch := rfl
@[simp] theorem resetRegisters_epoch : (resetRegisters s).epoch = s.epoch := rfl
@[simp] theorem resetRegisters_script : (resetRegisters s).script = s.script := rfl
end resetRegisters

section powerOnState
variable (s : State)
@[simp] theorem powerOnState_phase : (powerOnState s).phase = .idle := rfl
@[simp] theorem powerOnState_idx : (powerOnState s).idx = 0 := rfl
@[simp] theorem powerOnState_kLat : (powerOnState s).kLat = 0 := rfl
@[simp] theorem powerOnState_tLat : (powerOnState s).tLat = 0 := rfl
@[simp] theorem powerOnState_xferLen : (powerOnState s).xferLen = 0 := rfl
@[simp] theorem powerOnState_byteCount : (powerOnState s).byteCount = 0 := rfl
@[simp] theorem powerOnState_samples : (powerOnState s).samples = 0 := rfl
@[simp] theorem powerOnState_countClass : (powerOnState s).countClass = .none := rfl
@[simp] theorem powerOnState_flushReq : (powerOnState s).flushReq = false := rfl
@[simp] theorem powerOnState_done : (powerOnState s).done = false := rfl
@[simp] theorem powerOnState_drainErr : (powerOnState s).drainErr = false := rfl
@[simp] theorem powerOnState_validCount : (powerOnState s).validCount = 0 := rfl
@[simp] theorem powerOnState_ax : (powerOnState s).ax = 0 := rfl
@[simp] theorem powerOnState_ay : (powerOnState s).ay = 0 := rfl
@[simp] theorem powerOnState_az : (powerOnState s).az = 0 := rfl
@[simp] theorem powerOnState_gx : (powerOnState s).gx = 0 := rfl
@[simp] theorem powerOnState_gy : (powerOnState s).gy = 0 := rfl
@[simp] theorem powerOnState_gz : (powerOnState s).gz = 0 := rfl
@[simp] theorem powerOnState_tempRaw : (powerOnState s).tempRaw = 0 := rfl
@[simp] theorem powerOnState_ts : (powerOnState s).ts = 0 := rfl
@[simp] theorem powerOnState_sflags : (powerOnState s).sflags = ⟨false, false, false, false, false⟩ := rfl
@[simp] theorem powerOnState_err : (powerOnState s).err = ⟨false, false, false⟩ := rfl
@[simp] theorem powerOnState_fifoEmptyCnt : (powerOnState s).fifoEmptyCnt = 0 := rfl
@[simp] theorem powerOnState_fifoOverflowCnt : (powerOnState s).fifoOverflowCnt = 0 := rfl
@[simp] theorem powerOnState_fifoResetCnt : (powerOnState s).fifoResetCnt = 0 := rfl
@[simp] theorem powerOnState_badXferCnt : (powerOnState s).badXferCnt = 0 := rfl
@[simp] theorem powerOnState_rxbuf : (powerOnState s).rxbuf = [] := rfl
@[simp] theorem powerOnState_out : (powerOnState s).out = [] := rfl
@[simp] theorem powerOnState_cfg : (powerOnState s).cfg = s.cfg := rfl
@[simp] theorem powerOnState_rxWin : (powerOnState s).rxWin = [] := rfl
@[simp] theorem powerOnState_rxDraws : (powerOnState s).rxDraws = [] := rfl
@[simp] theorem powerOnState_powerEpoch : (powerOnState s).powerEpoch = s.epoch + 1 := rfl
@[simp] theorem powerOnState_epoch : (powerOnState s).epoch = s.epoch + 1 := rfl
@[simp] theorem powerOnState_script : (powerOnState s).script = s.script := rfl
end powerOnState

section emit
variable (r : OutSample) (s : State)
@[simp] theorem emit_phase : (emit r s).phase = s.phase := rfl
@[simp] theorem emit_idx : (emit r s).idx = s.idx := rfl
@[simp] theorem emit_kLat : (emit r s).kLat = s.kLat := rfl
@[simp] theorem emit_tLat : (emit r s).tLat = s.tLat := rfl
@[simp] theorem emit_xferLen : (emit r s).xferLen = s.xferLen := rfl
@[simp] theorem emit_byteCount : (emit r s).byteCount = s.byteCount := rfl
@[simp] theorem emit_samples : (emit r s).samples = s.samples := rfl
@[simp] theorem emit_countClass : (emit r s).countClass = s.countClass := rfl
@[simp] theorem emit_flushReq : (emit r s).flushReq = s.flushReq := rfl
@[simp] theorem emit_done : (emit r s).done = s.done := rfl
@[simp] theorem emit_drainErr : (emit r s).drainErr = s.drainErr := rfl
@[simp] theorem emit_validCount : (emit r s).validCount = s.validCount := rfl
@[simp] theorem emit_ax : (emit r s).ax = s.ax := rfl
@[simp] theorem emit_ay : (emit r s).ay = s.ay := rfl
@[simp] theorem emit_az : (emit r s).az = s.az := rfl
@[simp] theorem emit_gx : (emit r s).gx = s.gx := rfl
@[simp] theorem emit_gy : (emit r s).gy = s.gy := rfl
@[simp] theorem emit_gz : (emit r s).gz = s.gz := rfl
@[simp] theorem emit_tempRaw : (emit r s).tempRaw = s.tempRaw := rfl
@[simp] theorem emit_ts : (emit r s).ts = s.ts := rfl
@[simp] theorem emit_sflags : (emit r s).sflags = s.sflags := rfl
@[simp] theorem emit_err : (emit r s).err = s.err := rfl
@[simp] theorem emit_fifoEmptyCnt : (emit r s).fifoEmptyCnt = s.fifoEmptyCnt := rfl
@[simp] theorem emit_fifoOverflowCnt : (emit r s).fifoOverflowCnt = s.fifoOverflowCnt := rfl
@[simp] theorem emit_fifoResetCnt : (emit r s).fifoResetCnt = s.fifoResetCnt := rfl
@[simp] theorem emit_badXferCnt : (emit r s).badXferCnt = s.badXferCnt := rfl
@[simp] theorem emit_rxbuf : (emit r s).rxbuf = s.rxbuf := rfl
@[simp] theorem emit_out : (emit r s).out = s.out ++ [r] := rfl
@[simp] theorem emit_cfg : (emit r s).cfg = s.cfg := rfl
@[simp] theorem emit_rxWin : (emit r s).rxWin = s.rxWin := rfl
@[simp] theorem emit_rxDraws : (emit r s).rxDraws = s.rxDraws := rfl
@[simp] theorem emit_powerEpoch : (emit r s).powerEpoch = s.powerEpoch := rfl
@[simp] theorem emit_epoch : (emit r s).epoch = s.epoch := rfl
@[simp] theorem emit_script : (emit r s).script = s.script := rfl
end emit

section countState
variable (f : Bool) (bc : W16) (s : State)
@[simp] theorem countState_phase : (countState f bc s).phase = s.phase := rfl
@[simp] theorem countState_idx : (countState f bc s).idx = s.idx := rfl
@[simp] theorem countState_kLat : (countState f bc s).kLat = s.kLat := rfl
@[simp] theorem countState_tLat : (countState f bc s).tLat = s.tLat := rfl
@[simp] theorem countState_xferLen : (countState f bc s).xferLen = s.xferLen := rfl
@[simp] theorem countState_byteCount : (countState f bc s).byteCount = bc := rfl
@[simp] theorem countState_samples : (countState f bc s).samples = (classify s.cfg bc).samples := rfl
@[simp] theorem countState_countClass : (countState f bc s).countClass = (classify s.cfg bc).cls := rfl
@[simp] theorem countState_flushReq : (countState f bc s).flushReq = (s.flushReq || (classify s.cfg bc).flush) := rfl
@[simp] theorem countState_done : (countState f bc s).done = s.done := rfl
@[simp] theorem countState_drainErr : (countState f bc s).drainErr = s.drainErr := rfl
@[simp] theorem countState_validCount : (countState f bc s).validCount = s.validCount := rfl
@[simp] theorem countState_ax : (countState f bc s).ax = s.ax := rfl
@[simp] theorem countState_ay : (countState f bc s).ay = s.ay := rfl
@[simp] theorem countState_az : (countState f bc s).az = s.az := rfl
@[simp] theorem countState_gx : (countState f bc s).gx = s.gx := rfl
@[simp] theorem countState_gy : (countState f bc s).gy = s.gy := rfl
@[simp] theorem countState_gz : (countState f bc s).gz = s.gz := rfl
@[simp] theorem countState_tempRaw : (countState f bc s).tempRaw = s.tempRaw := rfl
@[simp] theorem countState_ts : (countState f bc s).ts = s.ts := rfl
@[simp] theorem countState_sflags : (countState f bc s).sflags = s.sflags := rfl
@[simp] theorem countState_err : (countState f bc s).err = s.err := rfl
@[simp] theorem countState_fifoEmptyCnt : (countState f bc s).fifoEmptyCnt = countIf ((classify s.cfg bc).cls == .empty) s.fifoEmptyCnt := rfl
@[simp] theorem countState_fifoOverflowCnt : (countState f bc s).fifoOverflowCnt = countIf ((classify s.cfg bc).cls == .ovfBytes || (classify s.cfg bc).cls == .ovfBatch) s.fifoOverflowCnt := rfl
@[simp] theorem countState_fifoResetCnt : (countState f bc s).fifoResetCnt = s.fifoResetCnt := rfl
@[simp] theorem countState_badXferCnt : (countState f bc s).badXferCnt = countIf (!f) s.badXferCnt := rfl
@[simp] theorem countState_rxbuf : (countState f bc s).rxbuf = s.rxbuf := rfl
@[simp] theorem countState_out : (countState f bc s).out = s.out := rfl
@[simp] theorem countState_cfg : (countState f bc s).cfg = s.cfg := rfl
@[simp] theorem countState_rxWin : (countState f bc s).rxWin = s.rxWin := rfl
@[simp] theorem countState_rxDraws : (countState f bc s).rxDraws = s.rxDraws := rfl
@[simp] theorem countState_powerEpoch : (countState f bc s).powerEpoch = s.powerEpoch := rfl
@[simp] theorem countState_epoch : (countState f bc s).epoch = s.epoch := rfl
@[simp] theorem countState_script : (countState f bc s).script = s.script := rfl
end countState

section flushAckState
variable (s : State)
@[simp] theorem flushAckState_phase : (flushAckState s).phase = s.phase := rfl
@[simp] theorem flushAckState_idx : (flushAckState s).idx = s.idx := rfl
@[simp] theorem flushAckState_kLat : (flushAckState s).kLat = s.kLat := rfl
@[simp] theorem flushAckState_tLat : (flushAckState s).tLat = s.tLat := rfl
@[simp] theorem flushAckState_xferLen : (flushAckState s).xferLen = s.xferLen := rfl
@[simp] theorem flushAckState_byteCount : (flushAckState s).byteCount = s.byteCount := rfl
@[simp] theorem flushAckState_samples : (flushAckState s).samples = s.samples := rfl
@[simp] theorem flushAckState_countClass : (flushAckState s).countClass = s.countClass := rfl
@[simp] theorem flushAckState_flushReq : (flushAckState s).flushReq = false := rfl
@[simp] theorem flushAckState_done : (flushAckState s).done = s.done := rfl
@[simp] theorem flushAckState_drainErr : (flushAckState s).drainErr = s.drainErr := rfl
@[simp] theorem flushAckState_validCount : (flushAckState s).validCount = s.validCount := rfl
@[simp] theorem flushAckState_ax : (flushAckState s).ax = s.ax := rfl
@[simp] theorem flushAckState_ay : (flushAckState s).ay = s.ay := rfl
@[simp] theorem flushAckState_az : (flushAckState s).az = s.az := rfl
@[simp] theorem flushAckState_gx : (flushAckState s).gx = s.gx := rfl
@[simp] theorem flushAckState_gy : (flushAckState s).gy = s.gy := rfl
@[simp] theorem flushAckState_gz : (flushAckState s).gz = s.gz := rfl
@[simp] theorem flushAckState_tempRaw : (flushAckState s).tempRaw = s.tempRaw := rfl
@[simp] theorem flushAckState_ts : (flushAckState s).ts = s.ts := rfl
@[simp] theorem flushAckState_sflags : (flushAckState s).sflags = s.sflags := rfl
@[simp] theorem flushAckState_err : (flushAckState s).err = s.err := rfl
@[simp] theorem flushAckState_fifoEmptyCnt : (flushAckState s).fifoEmptyCnt = s.fifoEmptyCnt := rfl
@[simp] theorem flushAckState_fifoOverflowCnt : (flushAckState s).fifoOverflowCnt = s.fifoOverflowCnt := rfl
@[simp] theorem flushAckState_fifoResetCnt : (flushAckState s).fifoResetCnt = satInc s.fifoResetCnt := rfl
@[simp] theorem flushAckState_badXferCnt : (flushAckState s).badXferCnt = s.badXferCnt := rfl
@[simp] theorem flushAckState_rxbuf : (flushAckState s).rxbuf = s.rxbuf := rfl
@[simp] theorem flushAckState_out : (flushAckState s).out = s.out := rfl
@[simp] theorem flushAckState_cfg : (flushAckState s).cfg = s.cfg := rfl
@[simp] theorem flushAckState_rxWin : (flushAckState s).rxWin = s.rxWin := rfl
@[simp] theorem flushAckState_rxDraws : (flushAckState s).rxDraws = s.rxDraws := rfl
@[simp] theorem flushAckState_powerEpoch : (flushAckState s).powerEpoch = s.powerEpoch := rfl
@[simp] theorem flushAckState_epoch : (flushAckState s).epoch = s.epoch := rfl
@[simp] theorem flushAckState_script : (flushAckState s).script = s.script := rfl
end flushAckState

section armState
variable (t : W64) (k : W16) (s : State)
@[simp] theorem armState_phase : (armState t k s).phase = .armed := rfl
@[simp] theorem armState_idx : (armState t k s).idx = 0 := rfl
@[simp] theorem armState_kLat : (armState t k s).kLat = k := rfl
@[simp] theorem armState_tLat : (armState t k s).tLat = t := rfl
@[simp] theorem armState_xferLen : (armState t k s).xferLen = BitVec.ofNat 16 (xferLenOf s.cfg k.toNat) := rfl
@[simp] theorem armState_byteCount : (armState t k s).byteCount = s.byteCount := rfl
@[simp] theorem armState_samples : (armState t k s).samples = s.samples := rfl
@[simp] theorem armState_countClass : (armState t k s).countClass = s.countClass := rfl
@[simp] theorem armState_flushReq : (armState t k s).flushReq = s.flushReq := rfl
@[simp] theorem armState_done : (armState t k s).done = false := rfl
@[simp] theorem armState_drainErr : (armState t k s).drainErr = false := rfl
@[simp] theorem armState_validCount : (armState t k s).validCount = 0 := rfl
@[simp] theorem armState_ax : (armState t k s).ax = s.ax := rfl
@[simp] theorem armState_ay : (armState t k s).ay = s.ay := rfl
@[simp] theorem armState_az : (armState t k s).az = s.az := rfl
@[simp] theorem armState_gx : (armState t k s).gx = s.gx := rfl
@[simp] theorem armState_gy : (armState t k s).gy = s.gy := rfl
@[simp] theorem armState_gz : (armState t k s).gz = s.gz := rfl
@[simp] theorem armState_tempRaw : (armState t k s).tempRaw = s.tempRaw := rfl
@[simp] theorem armState_ts : (armState t k s).ts = s.ts := rfl
@[simp] theorem armState_sflags : (armState t k s).sflags = s.sflags := rfl
@[simp] theorem armState_err : (armState t k s).err = s.err := rfl
@[simp] theorem armState_fifoEmptyCnt : (armState t k s).fifoEmptyCnt = s.fifoEmptyCnt := rfl
@[simp] theorem armState_fifoOverflowCnt : (armState t k s).fifoOverflowCnt = s.fifoOverflowCnt := rfl
@[simp] theorem armState_fifoResetCnt : (armState t k s).fifoResetCnt = s.fifoResetCnt := rfl
@[simp] theorem armState_badXferCnt : (armState t k s).badXferCnt = s.badXferCnt := rfl
@[simp] theorem armState_rxbuf : (armState t k s).rxbuf = s.rxbuf := rfl
@[simp] theorem armState_out : (armState t k s).out = s.out := rfl
@[simp] theorem armState_cfg : (armState t k s).cfg = s.cfg := rfl
@[simp] theorem armState_rxWin : (armState t k s).rxWin = [] := rfl
@[simp] theorem armState_rxDraws : (armState t k s).rxDraws = s.rxDraws := rfl
@[simp] theorem armState_powerEpoch : (armState t k s).powerEpoch = s.powerEpoch := rfl
@[simp] theorem armState_epoch : (armState t k s).epoch = s.epoch := rfl
@[simp] theorem armState_script : (armState t k s).script = s.script := rfl
end armState

section settleBurst
variable (s : State)
@[simp] theorem settleBurst_phase : (settleBurst s).phase = s.phase := rfl
@[simp] theorem settleBurst_idx : (settleBurst s).idx = s.idx := rfl
@[simp] theorem settleBurst_kLat : (settleBurst s).kLat = s.kLat := rfl
@[simp] theorem settleBurst_tLat : (settleBurst s).tLat = s.tLat := rfl
@[simp] theorem settleBurst_xferLen : (settleBurst s).xferLen = s.xferLen := rfl
@[simp] theorem settleBurst_byteCount : (settleBurst s).byteCount = s.byteCount := rfl
@[simp] theorem settleBurst_samples : (settleBurst s).samples = s.samples := rfl
@[simp] theorem settleBurst_countClass : (settleBurst s).countClass = s.countClass := rfl
@[simp] theorem settleBurst_flushReq : (settleBurst s).flushReq = s.flushReq := rfl
@[simp] theorem settleBurst_done : (settleBurst s).done = s.done := rfl
@[simp] theorem settleBurst_drainErr : (settleBurst s).drainErr = s.drainErr := rfl
@[simp] theorem settleBurst_validCount : (settleBurst s).validCount = s.validCount := rfl
@[simp] theorem settleBurst_ax : (settleBurst s).ax = s.ax := rfl
@[simp] theorem settleBurst_ay : (settleBurst s).ay = s.ay := rfl
@[simp] theorem settleBurst_az : (settleBurst s).az = s.az := rfl
@[simp] theorem settleBurst_gx : (settleBurst s).gx = s.gx := rfl
@[simp] theorem settleBurst_gy : (settleBurst s).gy = s.gy := rfl
@[simp] theorem settleBurst_gz : (settleBurst s).gz = s.gz := rfl
@[simp] theorem settleBurst_tempRaw : (settleBurst s).tempRaw = s.tempRaw := rfl
@[simp] theorem settleBurst_ts : (settleBurst s).ts = s.ts := rfl
@[simp] theorem settleBurst_sflags : (settleBurst s).sflags = s.sflags := rfl
@[simp] theorem settleBurst_err : (settleBurst s).err = s.err := rfl
@[simp] theorem settleBurst_fifoEmptyCnt : (settleBurst s).fifoEmptyCnt = s.fifoEmptyCnt := rfl
@[simp] theorem settleBurst_fifoOverflowCnt : (settleBurst s).fifoOverflowCnt = s.fifoOverflowCnt := rfl
@[simp] theorem settleBurst_fifoResetCnt : (settleBurst s).fifoResetCnt = s.fifoResetCnt := rfl
@[simp] theorem settleBurst_badXferCnt : (settleBurst s).badXferCnt = s.badXferCnt := rfl
@[simp] theorem settleBurst_rxbuf : (settleBurst s).rxbuf = s.rxbuf := rfl
@[simp] theorem settleBurst_out : (settleBurst s).out = s.out := rfl
@[simp] theorem settleBurst_cfg : (settleBurst s).cfg = s.cfg := rfl
@[simp] theorem settleBurst_rxWin : (settleBurst s).rxWin = s.rxWin := rfl
@[simp] theorem settleBurst_rxDraws : (settleBurst s).rxDraws = memFill (s.epoch + 1) s.rxDraws (undelivered s) := rfl
@[simp] theorem settleBurst_powerEpoch : (settleBurst s).powerEpoch = s.powerEpoch := rfl
@[simp] theorem settleBurst_epoch : (settleBurst s).epoch = s.epoch + 1 := rfl
@[simp] theorem settleBurst_script : (settleBurst s).script = s.script := rfl
end settleBurst

section xferOkState
variable (s : State)
@[simp] theorem xferOkState_phase : (xferOkState s).phase = .decoding := rfl
@[simp] theorem xferOkState_idx : (xferOkState s).idx = s.kLat := rfl
@[simp] theorem xferOkState_kLat : (xferOkState s).kLat = s.kLat := rfl
@[simp] theorem xferOkState_tLat : (xferOkState s).tLat = s.tLat := rfl
@[simp] theorem xferOkState_xferLen : (xferOkState s).xferLen = s.xferLen := rfl
@[simp] theorem xferOkState_byteCount : (xferOkState s).byteCount = s.byteCount := rfl
@[simp] theorem xferOkState_samples : (xferOkState s).samples = s.samples := rfl
@[simp] theorem xferOkState_countClass : (xferOkState s).countClass = s.countClass := rfl
@[simp] theorem xferOkState_flushReq : (xferOkState s).flushReq = s.flushReq := rfl
@[simp] theorem xferOkState_done : (xferOkState s).done = s.done := rfl
@[simp] theorem xferOkState_drainErr : (xferOkState s).drainErr = s.drainErr := rfl
@[simp] theorem xferOkState_validCount : (xferOkState s).validCount = s.validCount := rfl
@[simp] theorem xferOkState_ax : (xferOkState s).ax = s.ax := rfl
@[simp] theorem xferOkState_ay : (xferOkState s).ay = s.ay := rfl
@[simp] theorem xferOkState_az : (xferOkState s).az = s.az := rfl
@[simp] theorem xferOkState_gx : (xferOkState s).gx = s.gx := rfl
@[simp] theorem xferOkState_gy : (xferOkState s).gy = s.gy := rfl
@[simp] theorem xferOkState_gz : (xferOkState s).gz = s.gz := rfl
@[simp] theorem xferOkState_tempRaw : (xferOkState s).tempRaw = s.tempRaw := rfl
@[simp] theorem xferOkState_ts : (xferOkState s).ts = s.ts := rfl
@[simp] theorem xferOkState_sflags : (xferOkState s).sflags = s.sflags := rfl
@[simp] theorem xferOkState_err : (xferOkState s).err = s.err := rfl
@[simp] theorem xferOkState_fifoEmptyCnt : (xferOkState s).fifoEmptyCnt = s.fifoEmptyCnt := rfl
@[simp] theorem xferOkState_fifoOverflowCnt : (xferOkState s).fifoOverflowCnt = s.fifoOverflowCnt := rfl
@[simp] theorem xferOkState_fifoResetCnt : (xferOkState s).fifoResetCnt = s.fifoResetCnt := rfl
@[simp] theorem xferOkState_badXferCnt : (xferOkState s).badXferCnt = s.badXferCnt := rfl
@[simp] theorem xferOkState_rxbuf : (xferOkState s).rxbuf = s.rxbuf := rfl
@[simp] theorem xferOkState_out : (xferOkState s).out = s.out := rfl
@[simp] theorem xferOkState_cfg : (xferOkState s).cfg = s.cfg := rfl
@[simp] theorem xferOkState_rxWin : (xferOkState s).rxWin = s.rxWin := rfl
@[simp] theorem xferOkState_rxDraws : (xferOkState s).rxDraws = memFill (s.epoch + 1) s.rxDraws (undelivered s) := rfl
@[simp] theorem xferOkState_powerEpoch : (xferOkState s).powerEpoch = s.powerEpoch := rfl
@[simp] theorem xferOkState_epoch : (xferOkState s).epoch = s.epoch + 1 := rfl
@[simp] theorem xferOkState_script : (xferOkState s).script = s.script := rfl
end xferOkState

section xferFailState
variable (s : State)
@[simp] theorem xferFailState_phase : (xferFailState s).phase = .idle := rfl
@[simp] theorem xferFailState_idx : (xferFailState s).idx = s.idx := rfl
@[simp] theorem xferFailState_kLat : (xferFailState s).kLat = s.kLat := rfl
@[simp] theorem xferFailState_tLat : (xferFailState s).tLat = s.tLat := rfl
@[simp] theorem xferFailState_xferLen : (xferFailState s).xferLen = s.xferLen := rfl
@[simp] theorem xferFailState_byteCount : (xferFailState s).byteCount = s.byteCount := rfl
@[simp] theorem xferFailState_samples : (xferFailState s).samples = s.samples := rfl
@[simp] theorem xferFailState_countClass : (xferFailState s).countClass = s.countClass := rfl
@[simp] theorem xferFailState_flushReq : (xferFailState s).flushReq = s.flushReq := rfl
@[simp] theorem xferFailState_done : (xferFailState s).done = s.done := rfl
@[simp] theorem xferFailState_drainErr : (xferFailState s).drainErr = true := rfl
@[simp] theorem xferFailState_validCount : (xferFailState s).validCount = s.validCount := rfl
@[simp] theorem xferFailState_ax : (xferFailState s).ax = s.ax := rfl
@[simp] theorem xferFailState_ay : (xferFailState s).ay = s.ay := rfl
@[simp] theorem xferFailState_az : (xferFailState s).az = s.az := rfl
@[simp] theorem xferFailState_gx : (xferFailState s).gx = s.gx := rfl
@[simp] theorem xferFailState_gy : (xferFailState s).gy = s.gy := rfl
@[simp] theorem xferFailState_gz : (xferFailState s).gz = s.gz := rfl
@[simp] theorem xferFailState_tempRaw : (xferFailState s).tempRaw = s.tempRaw := rfl
@[simp] theorem xferFailState_ts : (xferFailState s).ts = s.ts := rfl
@[simp] theorem xferFailState_sflags : (xferFailState s).sflags = s.sflags := rfl
@[simp] theorem xferFailState_err : (xferFailState s).err = s.err := rfl
@[simp] theorem xferFailState_fifoEmptyCnt : (xferFailState s).fifoEmptyCnt = s.fifoEmptyCnt := rfl
@[simp] theorem xferFailState_fifoOverflowCnt : (xferFailState s).fifoOverflowCnt = s.fifoOverflowCnt := rfl
@[simp] theorem xferFailState_fifoResetCnt : (xferFailState s).fifoResetCnt = s.fifoResetCnt := rfl
@[simp] theorem xferFailState_badXferCnt : (xferFailState s).badXferCnt = satInc s.badXferCnt := rfl
@[simp] theorem xferFailState_rxbuf : (xferFailState s).rxbuf = s.rxbuf := rfl
@[simp] theorem xferFailState_out : (xferFailState s).out = s.out := rfl
@[simp] theorem xferFailState_cfg : (xferFailState s).cfg = s.cfg := rfl
@[simp] theorem xferFailState_rxWin : (xferFailState s).rxWin = s.rxWin := rfl
@[simp] theorem xferFailState_rxDraws : (xferFailState s).rxDraws = s.rxDraws := rfl
@[simp] theorem xferFailState_powerEpoch : (xferFailState s).powerEpoch = s.powerEpoch := rfl
@[simp] theorem xferFailState_epoch : (xferFailState s).epoch = s.epoch := rfl
@[simp] theorem xferFailState_script : (xferFailState s).script = s.script := rfl
end xferFailState

section writeResults
variable (d : Decoded) (ts : W64) (s : State)
@[simp] theorem writeResults_phase : (writeResults d ts s).phase = s.phase := rfl
@[simp] theorem writeResults_idx : (writeResults d ts s).idx = s.idx := rfl
@[simp] theorem writeResults_kLat : (writeResults d ts s).kLat = s.kLat := rfl
@[simp] theorem writeResults_tLat : (writeResults d ts s).tLat = s.tLat := rfl
@[simp] theorem writeResults_xferLen : (writeResults d ts s).xferLen = s.xferLen := rfl
@[simp] theorem writeResults_byteCount : (writeResults d ts s).byteCount = s.byteCount := rfl
@[simp] theorem writeResults_samples : (writeResults d ts s).samples = s.samples := rfl
@[simp] theorem writeResults_countClass : (writeResults d ts s).countClass = s.countClass := rfl
@[simp] theorem writeResults_flushReq : (writeResults d ts s).flushReq = s.flushReq := rfl
@[simp] theorem writeResults_done : (writeResults d ts s).done = s.done := rfl
@[simp] theorem writeResults_drainErr : (writeResults d ts s).drainErr = s.drainErr := rfl
@[simp] theorem writeResults_validCount : (writeResults d ts s).validCount = s.validCount := rfl
@[simp] theorem writeResults_ax : (writeResults d ts s).ax = d.acc.x := rfl
@[simp] theorem writeResults_ay : (writeResults d ts s).ay = d.acc.y := rfl
@[simp] theorem writeResults_az : (writeResults d ts s).az = d.acc.z := rfl
@[simp] theorem writeResults_gx : (writeResults d ts s).gx = d.gyr.x := rfl
@[simp] theorem writeResults_gy : (writeResults d ts s).gy = d.gyr.y := rfl
@[simp] theorem writeResults_gz : (writeResults d ts s).gz = d.gyr.z := rfl
@[simp] theorem writeResults_tempRaw : (writeResults d ts s).tempRaw = d.temp := rfl
@[simp] theorem writeResults_ts : (writeResults d ts s).ts = ts := rfl
@[simp] theorem writeResults_sflags : (writeResults d ts s).sflags = d.flags := rfl
@[simp] theorem writeResults_err : (writeResults d ts s).err = s.err := rfl
@[simp] theorem writeResults_fifoEmptyCnt : (writeResults d ts s).fifoEmptyCnt = s.fifoEmptyCnt := rfl
@[simp] theorem writeResults_fifoOverflowCnt : (writeResults d ts s).fifoOverflowCnt = s.fifoOverflowCnt := rfl
@[simp] theorem writeResults_fifoResetCnt : (writeResults d ts s).fifoResetCnt = s.fifoResetCnt := rfl
@[simp] theorem writeResults_badXferCnt : (writeResults d ts s).badXferCnt = s.badXferCnt := rfl
@[simp] theorem writeResults_rxbuf : (writeResults d ts s).rxbuf = s.rxbuf := rfl
@[simp] theorem writeResults_out : (writeResults d ts s).out = s.out := rfl
@[simp] theorem writeResults_cfg : (writeResults d ts s).cfg = s.cfg := rfl
@[simp] theorem writeResults_rxWin : (writeResults d ts s).rxWin = s.rxWin := rfl
@[simp] theorem writeResults_rxDraws : (writeResults d ts s).rxDraws = s.rxDraws := rfl
@[simp] theorem writeResults_powerEpoch : (writeResults d ts s).powerEpoch = s.powerEpoch := rfl
@[simp] theorem writeResults_epoch : (writeResults d ts s).epoch = s.epoch := rfl
@[simp] theorem writeResults_script : (writeResults d ts s).script = s.script := rfl
end writeResults

section withScript
variable (l : List EnvMove) (s : State)
@[simp] theorem withScript_phase : (withScript l s).phase = s.phase := rfl
@[simp] theorem withScript_idx : (withScript l s).idx = s.idx := rfl
@[simp] theorem withScript_kLat : (withScript l s).kLat = s.kLat := rfl
@[simp] theorem withScript_tLat : (withScript l s).tLat = s.tLat := rfl
@[simp] theorem withScript_xferLen : (withScript l s).xferLen = s.xferLen := rfl
@[simp] theorem withScript_byteCount : (withScript l s).byteCount = s.byteCount := rfl
@[simp] theorem withScript_samples : (withScript l s).samples = s.samples := rfl
@[simp] theorem withScript_countClass : (withScript l s).countClass = s.countClass := rfl
@[simp] theorem withScript_flushReq : (withScript l s).flushReq = s.flushReq := rfl
@[simp] theorem withScript_done : (withScript l s).done = s.done := rfl
@[simp] theorem withScript_drainErr : (withScript l s).drainErr = s.drainErr := rfl
@[simp] theorem withScript_validCount : (withScript l s).validCount = s.validCount := rfl
@[simp] theorem withScript_ax : (withScript l s).ax = s.ax := rfl
@[simp] theorem withScript_ay : (withScript l s).ay = s.ay := rfl
@[simp] theorem withScript_az : (withScript l s).az = s.az := rfl
@[simp] theorem withScript_gx : (withScript l s).gx = s.gx := rfl
@[simp] theorem withScript_gy : (withScript l s).gy = s.gy := rfl
@[simp] theorem withScript_gz : (withScript l s).gz = s.gz := rfl
@[simp] theorem withScript_tempRaw : (withScript l s).tempRaw = s.tempRaw := rfl
@[simp] theorem withScript_ts : (withScript l s).ts = s.ts := rfl
@[simp] theorem withScript_sflags : (withScript l s).sflags = s.sflags := rfl
@[simp] theorem withScript_err : (withScript l s).err = s.err := rfl
@[simp] theorem withScript_fifoEmptyCnt : (withScript l s).fifoEmptyCnt = s.fifoEmptyCnt := rfl
@[simp] theorem withScript_fifoOverflowCnt : (withScript l s).fifoOverflowCnt = s.fifoOverflowCnt := rfl
@[simp] theorem withScript_fifoResetCnt : (withScript l s).fifoResetCnt = s.fifoResetCnt := rfl
@[simp] theorem withScript_badXferCnt : (withScript l s).badXferCnt = s.badXferCnt := rfl
@[simp] theorem withScript_rxbuf : (withScript l s).rxbuf = s.rxbuf := rfl
@[simp] theorem withScript_out : (withScript l s).out = s.out := rfl
@[simp] theorem withScript_cfg : (withScript l s).cfg = s.cfg := rfl
@[simp] theorem withScript_rxWin : (withScript l s).rxWin = s.rxWin := rfl
@[simp] theorem withScript_rxDraws : (withScript l s).rxDraws = s.rxDraws := rfl
@[simp] theorem withScript_powerEpoch : (withScript l s).powerEpoch = s.powerEpoch := rfl
@[simp] theorem withScript_epoch : (withScript l s).epoch = s.epoch := rfl
@[simp] theorem withScript_script : (withScript l s).script = l := rfl
end withScript

section storeBurst
variable (a : Nat) (bytes : List Byte) (s : State)
@[simp] theorem storeBurst_phase : (storeBurst a bytes s).phase = s.phase := rfl
@[simp] theorem storeBurst_idx : (storeBurst a bytes s).idx = s.idx := rfl
@[simp] theorem storeBurst_kLat : (storeBurst a bytes s).kLat = s.kLat := rfl
@[simp] theorem storeBurst_tLat : (storeBurst a bytes s).tLat = s.tLat := rfl
@[simp] theorem storeBurst_xferLen : (storeBurst a bytes s).xferLen = s.xferLen := rfl
@[simp] theorem storeBurst_byteCount : (storeBurst a bytes s).byteCount = s.byteCount := rfl
@[simp] theorem storeBurst_samples : (storeBurst a bytes s).samples = s.samples := rfl
@[simp] theorem storeBurst_countClass : (storeBurst a bytes s).countClass = s.countClass := rfl
@[simp] theorem storeBurst_flushReq : (storeBurst a bytes s).flushReq = s.flushReq := rfl
@[simp] theorem storeBurst_done : (storeBurst a bytes s).done = s.done := rfl
@[simp] theorem storeBurst_drainErr : (storeBurst a bytes s).drainErr = s.drainErr := rfl
@[simp] theorem storeBurst_validCount : (storeBurst a bytes s).validCount = s.validCount := rfl
@[simp] theorem storeBurst_ax : (storeBurst a bytes s).ax = s.ax := rfl
@[simp] theorem storeBurst_ay : (storeBurst a bytes s).ay = s.ay := rfl
@[simp] theorem storeBurst_az : (storeBurst a bytes s).az = s.az := rfl
@[simp] theorem storeBurst_gx : (storeBurst a bytes s).gx = s.gx := rfl
@[simp] theorem storeBurst_gy : (storeBurst a bytes s).gy = s.gy := rfl
@[simp] theorem storeBurst_gz : (storeBurst a bytes s).gz = s.gz := rfl
@[simp] theorem storeBurst_tempRaw : (storeBurst a bytes s).tempRaw = s.tempRaw := rfl
@[simp] theorem storeBurst_ts : (storeBurst a bytes s).ts = s.ts := rfl
@[simp] theorem storeBurst_sflags : (storeBurst a bytes s).sflags = s.sflags := rfl
@[simp] theorem storeBurst_err : (storeBurst a bytes s).err = s.err := rfl
@[simp] theorem storeBurst_fifoEmptyCnt : (storeBurst a bytes s).fifoEmptyCnt = s.fifoEmptyCnt := rfl
@[simp] theorem storeBurst_fifoOverflowCnt : (storeBurst a bytes s).fifoOverflowCnt = s.fifoOverflowCnt := rfl
@[simp] theorem storeBurst_fifoResetCnt : (storeBurst a bytes s).fifoResetCnt = s.fifoResetCnt := rfl
@[simp] theorem storeBurst_badXferCnt : (storeBurst a bytes s).badXferCnt = s.badXferCnt := rfl
@[simp] theorem storeBurst_rxbuf : (storeBurst a bytes s).rxbuf = memWriteList s.rxbuf a bytes := rfl
@[simp] theorem storeBurst_out : (storeBurst a bytes s).out = s.out := rfl
@[simp] theorem storeBurst_cfg : (storeBurst a bytes s).cfg = s.cfg := rfl
@[simp] theorem storeBurst_rxWin : (storeBurst a bytes s).rxWin = addrInsertRange s.rxWin a bytes.length := rfl
@[simp] theorem storeBurst_rxDraws : (storeBurst a bytes s).rxDraws = memForget s.rxDraws a bytes.length := rfl
@[simp] theorem storeBurst_powerEpoch : (storeBurst a bytes s).powerEpoch = s.powerEpoch := rfl
@[simp] theorem storeBurst_epoch : (storeBurst a bytes s).epoch = s.epoch := rfl
@[simp] theorem storeBurst_script : (storeBurst a bytes s).script = s.script := rfl
end storeBurst

section forwardSample
variable (d : Decoded) (ts : W64) (s : State)
@[simp] theorem forwardSample_phase : (forwardSample d ts s).phase = s.phase := by unfold forwardSample; split <;> rfl
@[simp] theorem forwardSample_idx : (forwardSample d ts s).idx = s.idx := by unfold forwardSample; split <;> rfl
@[simp] theorem forwardSample_kLat : (forwardSample d ts s).kLat = s.kLat := by unfold forwardSample; split <;> rfl
@[simp] theorem forwardSample_tLat : (forwardSample d ts s).tLat = s.tLat := by unfold forwardSample; split <;> rfl
@[simp] theorem forwardSample_xferLen : (forwardSample d ts s).xferLen = s.xferLen := by unfold forwardSample; split <;> rfl
@[simp] theorem forwardSample_byteCount : (forwardSample d ts s).byteCount = s.byteCount := by unfold forwardSample; split <;> rfl
@[simp] theorem forwardSample_samples : (forwardSample d ts s).samples = s.samples := by unfold forwardSample; split <;> rfl
@[simp] theorem forwardSample_countClass : (forwardSample d ts s).countClass = s.countClass := by unfold forwardSample; split <;> rfl
@[simp] theorem forwardSample_flushReq : (forwardSample d ts s).flushReq = s.flushReq := by unfold forwardSample; split <;> rfl
@[simp] theorem forwardSample_done : (forwardSample d ts s).done = s.done := by unfold forwardSample; split <;> rfl
@[simp] theorem forwardSample_drainErr : (forwardSample d ts s).drainErr = s.drainErr := by unfold forwardSample; split <;> rfl
@[simp] theorem forwardSample_validCount : (forwardSample d ts s).validCount = if d.flags.valid then s.validCount + 1 else s.validCount := by unfold forwardSample; split <;> rfl
@[simp] theorem forwardSample_ax : (forwardSample d ts s).ax = s.ax := by unfold forwardSample; split <;> rfl
@[simp] theorem forwardSample_ay : (forwardSample d ts s).ay = s.ay := by unfold forwardSample; split <;> rfl
@[simp] theorem forwardSample_az : (forwardSample d ts s).az = s.az := by unfold forwardSample; split <;> rfl
@[simp] theorem forwardSample_gx : (forwardSample d ts s).gx = s.gx := by unfold forwardSample; split <;> rfl
@[simp] theorem forwardSample_gy : (forwardSample d ts s).gy = s.gy := by unfold forwardSample; split <;> rfl
@[simp] theorem forwardSample_gz : (forwardSample d ts s).gz = s.gz := by unfold forwardSample; split <;> rfl
@[simp] theorem forwardSample_tempRaw : (forwardSample d ts s).tempRaw = s.tempRaw := by unfold forwardSample; split <;> rfl
@[simp] theorem forwardSample_ts : (forwardSample d ts s).ts = s.ts := by unfold forwardSample; split <;> rfl
@[simp] theorem forwardSample_sflags : (forwardSample d ts s).sflags = s.sflags := by unfold forwardSample; split <;> rfl
@[simp] theorem forwardSample_err : (forwardSample d ts s).err = s.err := by unfold forwardSample; split <;> rfl
@[simp] theorem forwardSample_fifoEmptyCnt : (forwardSample d ts s).fifoEmptyCnt = s.fifoEmptyCnt := by unfold forwardSample; split <;> rfl
@[simp] theorem forwardSample_fifoOverflowCnt : (forwardSample d ts s).fifoOverflowCnt = s.fifoOverflowCnt := by unfold forwardSample; split <;> rfl
@[simp] theorem forwardSample_fifoResetCnt : (forwardSample d ts s).fifoResetCnt = s.fifoResetCnt := by unfold forwardSample; split <;> rfl
@[simp] theorem forwardSample_badXferCnt : (forwardSample d ts s).badXferCnt = s.badXferCnt := by unfold forwardSample; split <;> rfl
@[simp] theorem forwardSample_rxbuf : (forwardSample d ts s).rxbuf = s.rxbuf := by unfold forwardSample; split <;> rfl
@[simp] theorem forwardSample_out : (forwardSample d ts s).out = if d.flags.valid then s.out ++ [d.sample ts] else s.out := by unfold forwardSample; split <;> rfl
@[simp] theorem forwardSample_cfg : (forwardSample d ts s).cfg = s.cfg := by unfold forwardSample; split <;> rfl
@[simp] theorem forwardSample_rxWin : (forwardSample d ts s).rxWin = s.rxWin := by unfold forwardSample; split <;> rfl
@[simp] theorem forwardSample_rxDraws : (forwardSample d ts s).rxDraws = s.rxDraws := by unfold forwardSample; split <;> rfl
@[simp] theorem forwardSample_powerEpoch : (forwardSample d ts s).powerEpoch = s.powerEpoch := by unfold forwardSample; split <;> rfl
@[simp] theorem forwardSample_epoch : (forwardSample d ts s).epoch = s.epoch := by unfold forwardSample; split <;> rfl
@[simp] theorem forwardSample_script : (forwardSample d ts s).script = s.script := by unfold forwardSample; split <;> rfl
end forwardSample

section advanceCursor
variable (i : Nat) (s : State)
@[simp] theorem advanceCursor_phase : (advanceCursor i s).phase = if i = 0 then .idle else s.phase := by unfold advanceCursor; split <;> rfl
@[simp] theorem advanceCursor_idx : (advanceCursor i s).idx = BitVec.ofNat 16 i := by unfold advanceCursor; split <;> rfl
@[simp] theorem advanceCursor_kLat : (advanceCursor i s).kLat = s.kLat := by unfold advanceCursor; split <;> rfl
@[simp] theorem advanceCursor_tLat : (advanceCursor i s).tLat = s.tLat := by unfold advanceCursor; split <;> rfl
@[simp] theorem advanceCursor_xferLen : (advanceCursor i s).xferLen = s.xferLen := by unfold advanceCursor; split <;> rfl
@[simp] theorem advanceCursor_byteCount : (advanceCursor i s).byteCount = s.byteCount := by unfold advanceCursor; split <;> rfl
@[simp] theorem advanceCursor_samples : (advanceCursor i s).samples = s.samples := by unfold advanceCursor; split <;> rfl
@[simp] theorem advanceCursor_countClass : (advanceCursor i s).countClass = s.countClass := by unfold advanceCursor; split <;> rfl
@[simp] theorem advanceCursor_flushReq : (advanceCursor i s).flushReq = s.flushReq := by unfold advanceCursor; split <;> rfl
@[simp] theorem advanceCursor_done : (advanceCursor i s).done = if i = 0 then true else s.done := by unfold advanceCursor; split <;> rfl
@[simp] theorem advanceCursor_drainErr : (advanceCursor i s).drainErr = s.drainErr := by unfold advanceCursor; split <;> rfl
@[simp] theorem advanceCursor_validCount : (advanceCursor i s).validCount = s.validCount := by unfold advanceCursor; split <;> rfl
@[simp] theorem advanceCursor_ax : (advanceCursor i s).ax = s.ax := by unfold advanceCursor; split <;> rfl
@[simp] theorem advanceCursor_ay : (advanceCursor i s).ay = s.ay := by unfold advanceCursor; split <;> rfl
@[simp] theorem advanceCursor_az : (advanceCursor i s).az = s.az := by unfold advanceCursor; split <;> rfl
@[simp] theorem advanceCursor_gx : (advanceCursor i s).gx = s.gx := by unfold advanceCursor; split <;> rfl
@[simp] theorem advanceCursor_gy : (advanceCursor i s).gy = s.gy := by unfold advanceCursor; split <;> rfl
@[simp] theorem advanceCursor_gz : (advanceCursor i s).gz = s.gz := by unfold advanceCursor; split <;> rfl
@[simp] theorem advanceCursor_tempRaw : (advanceCursor i s).tempRaw = s.tempRaw := by unfold advanceCursor; split <;> rfl
@[simp] theorem advanceCursor_ts : (advanceCursor i s).ts = s.ts := by unfold advanceCursor; split <;> rfl
@[simp] theorem advanceCursor_sflags : (advanceCursor i s).sflags = s.sflags := by unfold advanceCursor; split <;> rfl
@[simp] theorem advanceCursor_err : (advanceCursor i s).err = s.err := by unfold advanceCursor; split <;> rfl
@[simp] theorem advanceCursor_fifoEmptyCnt : (advanceCursor i s).fifoEmptyCnt = s.fifoEmptyCnt := by unfold advanceCursor; split <;> rfl
@[simp] theorem advanceCursor_fifoOverflowCnt : (advanceCursor i s).fifoOverflowCnt = s.fifoOverflowCnt := by unfold advanceCursor; split <;> rfl
@[simp] theorem advanceCursor_fifoResetCnt : (advanceCursor i s).fifoResetCnt = s.fifoResetCnt := by unfold advanceCursor; split <;> rfl
@[simp] theorem advanceCursor_badXferCnt : (advanceCursor i s).badXferCnt = s.badXferCnt := by unfold advanceCursor; split <;> rfl
@[simp] theorem advanceCursor_rxbuf : (advanceCursor i s).rxbuf = s.rxbuf := by unfold advanceCursor; split <;> rfl
@[simp] theorem advanceCursor_out : (advanceCursor i s).out = s.out := by unfold advanceCursor; split <;> rfl
@[simp] theorem advanceCursor_cfg : (advanceCursor i s).cfg = s.cfg := by unfold advanceCursor; split <;> rfl
@[simp] theorem advanceCursor_rxWin : (advanceCursor i s).rxWin = s.rxWin := by unfold advanceCursor; split <;> rfl
@[simp] theorem advanceCursor_rxDraws : (advanceCursor i s).rxDraws = s.rxDraws := by unfold advanceCursor; split <;> rfl
@[simp] theorem advanceCursor_powerEpoch : (advanceCursor i s).powerEpoch = s.powerEpoch := by unfold advanceCursor; split <;> rfl
@[simp] theorem advanceCursor_epoch : (advanceCursor i s).epoch = s.epoch := by unfold advanceCursor; split <;> rfl
@[simp] theorem advanceCursor_script : (advanceCursor i s).script = s.script := by unfold advanceCursor; split <;> rfl
end advanceCursor

section recordState
variable (i : Nat) (s : State)
@[simp] theorem recordState_phase : (recordState i s).phase = if i = 0 then .idle else s.phase := by simp [recordState]
@[simp] theorem recordState_idx : (recordState i s).idx = BitVec.ofNat 16 i := by simp [recordState]
@[simp] theorem recordState_kLat : (recordState i s).kLat = s.kLat := by simp [recordState]
@[simp] theorem recordState_tLat : (recordState i s).tLat = s.tLat := by simp [recordState]
@[simp] theorem recordState_xferLen : (recordState i s).xferLen = s.xferLen := by simp [recordState]
@[simp] theorem recordState_byteCount : (recordState i s).byteCount = s.byteCount := by simp [recordState]
@[simp] theorem recordState_samples : (recordState i s).samples = s.samples := by simp [recordState]
@[simp] theorem recordState_countClass : (recordState i s).countClass = s.countClass := by simp [recordState]
@[simp] theorem recordState_flushReq : (recordState i s).flushReq = s.flushReq := by simp [recordState]
@[simp] theorem recordState_done : (recordState i s).done = if i = 0 then true else s.done := by simp [recordState]
@[simp] theorem recordState_drainErr : (recordState i s).drainErr = s.drainErr := by simp [recordState]
@[simp] theorem recordState_validCount : (recordState i s).validCount = if (decodeAt s i).flags.valid then s.validCount + 1 else s.validCount := by simp [recordState]
@[simp] theorem recordState_ax : (recordState i s).ax = (decodeAt s i).acc.x := by simp [recordState]
@[simp] theorem recordState_ay : (recordState i s).ay = (decodeAt s i).acc.y := by simp [recordState]
@[simp] theorem recordState_az : (recordState i s).az = (decodeAt s i).acc.z := by simp [recordState]
@[simp] theorem recordState_gx : (recordState i s).gx = (decodeAt s i).gyr.x := by simp [recordState]
@[simp] theorem recordState_gy : (recordState i s).gy = (decodeAt s i).gyr.y := by simp [recordState]
@[simp] theorem recordState_gz : (recordState i s).gz = (decodeAt s i).gyr.z := by simp [recordState]
@[simp] theorem recordState_tempRaw : (recordState i s).tempRaw = (decodeAt s i).temp := by simp [recordState]
@[simp] theorem recordState_ts : (recordState i s).ts = tsAt s i := by simp [recordState]
@[simp] theorem recordState_sflags : (recordState i s).sflags = (decodeAt s i).flags := by simp [recordState]
@[simp] theorem recordState_err : (recordState i s).err = s.err := by simp [recordState]
@[simp] theorem recordState_fifoEmptyCnt : (recordState i s).fifoEmptyCnt = s.fifoEmptyCnt := by simp [recordState]
@[simp] theorem recordState_fifoOverflowCnt : (recordState i s).fifoOverflowCnt = s.fifoOverflowCnt := by simp [recordState]
@[simp] theorem recordState_fifoResetCnt : (recordState i s).fifoResetCnt = s.fifoResetCnt := by simp [recordState]
@[simp] theorem recordState_badXferCnt : (recordState i s).badXferCnt = s.badXferCnt := by simp [recordState]
@[simp] theorem recordState_rxbuf : (recordState i s).rxbuf = s.rxbuf := by simp [recordState]
@[simp] theorem recordState_out : (recordState i s).out = if (decodeAt s i).flags.valid then s.out ++ [(decodeAt s i).sample (tsAt s i)] else s.out := by simp [recordState]
@[simp] theorem recordState_cfg : (recordState i s).cfg = s.cfg := by simp [recordState]
@[simp] theorem recordState_rxWin : (recordState i s).rxWin = s.rxWin := by simp [recordState]
@[simp] theorem recordState_rxDraws : (recordState i s).rxDraws = s.rxDraws := by simp [recordState]
@[simp] theorem recordState_powerEpoch : (recordState i s).powerEpoch = s.powerEpoch := by simp [recordState]
@[simp] theorem recordState_epoch : (recordState i s).epoch = s.epoch := by simp [recordState]
@[simp] theorem recordState_script : (recordState i s).script = s.script := by simp [recordState]
end recordState

end Sys2Proof.Machine
end

