-- ==== Sys2Proof/Laws/Memory.lean ====
section
/-! SUPPORT. The laws of RXBUF, of the set of written addresses and of the undelivered bytes: a read after a write, the canonical form kept, the range of the addresses kept, and what a byte reads as after each update. -/

namespace Sys2Proof.Machine

variable {α : Type}

@[simp] theorem memRead_nil (a : Nat) : memRead ([] : List (Nat × α)) a = none := rfl

theorem memRead_cons (k : Nat) (v : α) (m : List (Nat × α)) (a : Nat) :
    memRead ((k, v) :: m) a = if a = k then some v else memRead m a := rfl

@[simp] theorem memRead_memWrite_same (m : List (Nat × α)) (a : Nat) (b : α) :
    memRead (memWrite m a b) a = some b := by
  induction m with
  | nil => simp [memWrite, memRead]
  | cons c m ih =>
    obtain ⟨k, v⟩ := c
    unfold memWrite
    split
    · simp [memRead]
    · split
      · simp [memRead, *]
      · simp [memRead, *]

@[simp] theorem memRead_memWrite_other (m : List (Nat × α)) {a a' : Nat} (b : α) (h : a' ≠ a) :
    memRead (memWrite m a b) a' = memRead m a' := by
  induction m with
  | nil => simp [memWrite, memRead, h]
  | cons c m ih =>
    obtain ⟨k, v⟩ := c
    unfold memWrite
    split
    · simp [memRead, h]
    · split
      · next hk => subst hk; simp [memRead, h]
      · simp [memRead, ih]

/-- The keys of a written memory. -/
theorem mem_memWrite {m : List (Nat × α)} {a : Nat} {b : α} {p : Nat × α} (h : p ∈ memWrite m a b) :
    p.1 = a ∨ p ∈ m := by
  induction m with
  | nil => simp [memWrite] at h; simp [h]
  | cons c m ih =>
    obtain ⟨k, v⟩ := c
    unfold memWrite at h
    split at h
    · simp only [List.mem_cons] at h ⊢
      rcases h with rfl | h
      · exact .inl rfl
      · exact .inr h
    · split at h
      · next hk =>
        simp only [List.mem_cons] at h ⊢
        rcases h with rfl | h
        · exact .inl hk.symm
        · exact .inr (.inr h)
      · simp only [List.mem_cons] at h ⊢
        rcases h with rfl | h
        · exact .inr (.inl rfl)
        · rcases ih h with h | h
          · exact .inl h
          · exact .inr (.inr h)

theorem memWrite_wf {m : List (Nat × α)} (hm : Memory.wf m) (a : Nat) (b : α) : Memory.wf (memWrite m a b) := by
  induction m with
  | nil => simp [memWrite]
  | cons c m ih =>
    obtain ⟨k, v⟩ := c
    obtain ⟨hk, hm'⟩ := List.pairwise_cons.mp hm
    unfold memWrite
    split
    · next hlt =>
      refine List.pairwise_cons.mpr ⟨fun p hp => ?_, hm⟩
      rcases List.mem_cons.mp hp with rfl | hp
      · exact hlt
      · exact Nat.lt_trans hlt (hk p hp)
    · split
      · exact List.pairwise_cons.mpr ⟨hk, hm'⟩
      · next hlt hne =>
        refine List.pairwise_cons.mpr ⟨fun p hp => ?_, ih hm'⟩
        rcases mem_memWrite hp with h | hp
        · simp only [h]; omega
        · exact hk p hp

/-- Filling addresses lists the new entry at each of them and leaves the others. -/
theorem memRead_memFill (v : α) (m : List (Nat × α)) (as : List Nat) (x : Nat) :
    memRead (memFill v m as) x = if x ∈ as then some v else memRead m x := by
  induction as generalizing m with
  | nil => simp [memFill]
  | cons a as ih =>
    rw [memFill, ih]
    by_cases h : x = a
    · subst h; simp
    · simp [memRead_memWrite_other _ _ h, h]

theorem memFill_wf (v : α) {m : List (Nat × α)} (hm : Memory.wf m) (as : List Nat) : Memory.wf (memFill v m as) := by
  induction as generalizing m with
  | nil => exact hm
  | cons a as ih => exact ih (memWrite_wf hm a v)

/-- Filling addresses below a bound leaves every listed address below it. -/
theorem memFill_below (v : α) {m : List (Nat × α)} {n : Nat} (hm : ∀ p ∈ m, p.1 < n) {as : List Nat} (h : ∀ a ∈ as, a < n) :
    ∀ p ∈ memFill v m as, p.1 < n := by
  induction as generalizing m with
  | nil => exact hm
  | cons a as ih =>
    refine ih (fun p hp => ?_) fun x hx => h x (List.mem_cons_of_mem _ hx)
    rcases mem_memWrite hp with h' | hp
    · rw [h']; exact h a List.mem_cons_self
    · exact hm p hp

/-- Unlisting addresses leaves what is listed at the others. -/
theorem memRead_memForget (m : List (Nat × α)) (a n x : Nat) :
    memRead (memForget m a n) x = if a ≤ x ∧ x < a + n then none else memRead m x := by
  unfold memForget
  induction m with
  | nil => simp
  | cons c m ih =>
    obtain ⟨k, v⟩ := c
    by_cases hk : k < a ∨ a + n ≤ k
    · rw [List.filter_cons_of_pos (by simpa using hk), memRead_cons, memRead_cons, ih]
      by_cases hx : x = k
      · subst hx; rw [if_pos rfl, if_neg (by omega), if_pos rfl]
      · simp only [if_neg hx]
    · rw [List.filter_cons_of_neg (by simpa using hk), memRead_cons, ih]
      by_cases hx : x = k
      · subst hx; rw [if_pos (by omega), if_pos (by omega)]
      · simp only [if_neg hx]

theorem memForget_wf {m : List (Nat × α)} (hm : Memory.wf m) (a n : Nat) : Memory.wf (memForget m a n) :=
  hm.filter _

theorem mem_memForget {m : List (Nat × α)} {a n : Nat} {p : Nat × α} (h : p ∈ memForget m a n) : p ∈ m :=
  (List.mem_filter.mp h).1

theorem memWriteList_wf {m : List Host.Cell} (hm : Memory.wf m) (a : Nat) (bs : List Byte) :
    Memory.wf (memWriteList m a bs) := by
  induction bs generalizing m a with
  | nil => exact hm
  | cons b bs ih => exact ih (memWrite_wf hm a b) (a + 1)

/-- Writing below a bound leaves every listed address below it. -/
theorem memWriteList_below {m : List Host.Cell} {n : Nat} (hm : ∀ p ∈ m, p.1 < n) (a : Nat) (bs : List Byte)
    (h : a + bs.length ≤ n) : ∀ p ∈ memWriteList m a bs, p.1 < n := by
  induction bs generalizing m a with
  | nil => exact hm
  | cons b bs ih =>
    simp only [List.length_cons] at h
    refine ih (fun p hp => ?_) (a + 1) (by omega)
    rcases mem_memWrite hp with h' | hp
    · omega
    · exact hm p hp

/-- What a burst leaves at each address: its own bytes, and outside it what was there. -/
theorem memRead_memWriteList (m : List Host.Cell) (a : Nat) (bs : List Byte) (x : Nat) :
    memRead (memWriteList m a bs) x = if a ≤ x then (bs[x - a]?).or (memRead m x) else memRead m x := by
  induction bs generalizing m a with
  | nil => simp [memWriteList]
  | cons b bs ih =>
    rw [memWriteList, ih]
    rcases Nat.lt_trichotomy x a with h | rfl | h
    · rw [if_neg (by omega), if_neg (by omega), memRead_memWrite_other _ _ (by omega)]
    · rw [if_neg (by omega), if_pos (Nat.le_refl _)]; simp
    · rw [if_pos (by omega), if_pos (by omega), memRead_memWrite_other _ _ (by omega)]
      have : x - a = (x - (a + 1)) + 1 := by omega
      rw [this, List.getElem?_cons_succ]

@[simp] theorem mem_addrInsert {l : List Nat} {a x : Nat} : x ∈ addrInsert l a ↔ x = a ∨ x ∈ l := by
  induction l with
  | nil => simp [addrInsert]
  | cons k l ih =>
    unfold addrInsert
    split
    · simp
    · split
      · next h => subst h; simp
      · simp only [List.mem_cons, ih]; tauto

theorem addrInsert_rising {l : List Nat} (hl : l.Pairwise (· < ·)) (a : Nat) : (addrInsert l a).Pairwise (· < ·) := by
  induction l with
  | nil => simp [addrInsert]
  | cons k l ih =>
    obtain ⟨hk, hl'⟩ := List.pairwise_cons.mp hl
    unfold addrInsert
    split
    · next hlt =>
      refine List.pairwise_cons.mpr ⟨fun x hx => ?_, hl⟩
      rcases List.mem_cons.mp hx with rfl | hx
      · exact hlt
      · exact Nat.lt_trans hlt (hk x hx)
    · split
      · exact hl
      · next hlt hne =>
        refine List.pairwise_cons.mpr ⟨fun x hx => ?_, ih hl'⟩
        rcases mem_addrInsert.mp hx with rfl | hx
        · omega
        · exact hk x hx

theorem mem_addrInsertRange {l : List Nat} {a n x : Nat} :
    x ∈ addrInsertRange l a n ↔ (a ≤ x ∧ x < a + n) ∨ x ∈ l := by
  induction n generalizing l a with
  | zero => simp only [addrInsertRange]; constructor
            · exact .inr
            · rintro (h | h)
              · omega
              · exact h
  | succ n ih =>
    rw [addrInsertRange, ih, mem_addrInsert]
    constructor
    · rintro (h | rfl | h)
      · exact .inl ⟨by omega, by omega⟩
      · exact .inl ⟨by omega, by omega⟩
      · exact .inr h
    · rintro (h | h)
      · rcases Nat.eq_or_lt_of_le h.1 with h' | h'
        · exact .inr (.inl h'.symm)
        · exact .inl ⟨by omega, by omega⟩
      · exact .inr (.inr h)

theorem addrInsertRange_rising {l : List Nat} (hl : l.Pairwise (· < ·)) (a n : Nat) :
    (addrInsertRange l a n).Pairwise (· < ·) := by
  induction n generalizing l a with
  | zero => exact hl
  | succ n ih => exact ih (addrInsert_rising hl a) (a + 1)

/-- The memory of the machine after power-on is in canonical form. -/
theorem reset_memory_wf (c : Cfg) : Memory.wf (State.resetWith c).rxbuf := List.Pairwise.nil

/-- What a byte of RXBUF reads as depends on nothing but the buffer, the undelivered bytes and the draw of the last power-on. -/
theorem rxByte_congr {s t : State} (h1 : s.rxbuf = t.rxbuf) (h2 : s.rxDraws = t.rxDraws) (h3 : s.powerEpoch = t.powerEpoch)
    (a : Nat) : rxByte s a = rxByte t a := by
  simp only [rxByte, h1, h2, h3]

theorem mem_undelivered {s : State} {a : Nat} : a ∈ undelivered s ↔ a < s.xferLen.toNat ∧ a ∉ s.rxWin := by
  simp [undelivered]

/-- After a transport write, an address of the burst reads as the burst's byte. -/
theorem rxByte_storeBurst_inside (s : State) (a : Nat) (bs : List Byte) (x : Nat) (h : a ≤ x) (hx : x - a < bs.length) :
    rxByte (storeBurst a bs s) x = bs[x - a] := by
  have hd : memRead (memForget s.rxDraws a bs.length) x = none := by
    rw [memRead_memForget, if_pos ⟨h, by omega⟩]
  simp [rxByte, hd, memRead_memWriteList, h, List.getElem?_eq_getElem hx]

/-- After a transport write, an address outside the burst reads as before. -/
theorem rxByte_storeBurst_outside (s : State) (a : Nat) (bs : List Byte) (x : Nat) (h : x < a ∨ a + bs.length ≤ x) :
    rxByte (storeBurst a bs s) x = rxByte s x := by
  have hd : memRead (memForget s.rxDraws a bs.length) x = memRead s.rxDraws x := by
    rw [memRead_memForget, if_neg (by omega)]
  have hread : memRead (memWriteList s.rxbuf a bs) x = memRead s.rxbuf x := by
    rw [memRead_memWriteList]
    split
    · rw [List.getElem?_eq_none (by omega)]; rfl
    · rfl
  simp only [rxByte, storeBurst_rxDraws, storeBurst_rxbuf, storeBurst_powerEpoch, hd, hread]

/-- After a successful burst, the byte of an address of the burst that the transport did not write is a new free value. -/
theorem rxByte_xferOkState_undelivered (s : State) {a : Nat} (h : a < s.xferLen.toNat) (hw : a ∉ s.rxWin) :
    rxByte (xferOkState s) a = Config.unwrittenByte (s.epoch + 1) a := by
  simp only [rxByte, xferOkState_rxDraws, memRead_memFill, if_pos (mem_undelivered.mpr ⟨h, hw⟩)]

/-- After a successful burst, a byte the transport wrote and a byte outside the burst read as before. -/
theorem rxByte_xferOkState_kept (s : State) {a : Nat} (h : s.xferLen.toNat ≤ a ∨ a ∈ s.rxWin) :
    rxByte (xferOkState s) a = rxByte s a := by
  have hn : a ∉ undelivered s := fun hu => by
    obtain ⟨h1, h2⟩ := mem_undelivered.mp hu
    rcases h with h | h
    · omega
    · exact h2 h
  simp only [rxByte, xferOkState_rxDraws, xferOkState_rxbuf, xferOkState_powerEpoch, memRead_memFill, if_neg hn]

/-- ARM leaves every byte as it reads. -/
@[simp] theorem rxByte_armState (t : W64) (k : W16) (s : State) (a : Nat) : rxByte (armState t k s) a = rxByte s a := rfl

@[simp] theorem rxByte_withScript (l : List EnvMove) (s : State) (a : Nat) : rxByte (withScript l s) a = rxByte s a := rfl

@[simp] theorem rxByte_recordState (i : Nat) (s : State) (a : Nat) : rxByte (recordState i s) a = rxByte s a :=
  rxByte_congr (by simp) (by simp) (by simp) a

end Sys2Proof.Machine
end

