-- ==== Sys2Proof/Laws/PerInstr.lean ====
section
/-! SUPPORT. The family LegalWord: for each operation, its well-formedness and what its bundle's fields hold (spec 30_encoding R53, R54, R57). -/

namespace Sys2Proof.Laws.LegalWord

/-- The operation is well-formed, and its bundle holds a legal command word and the operation's operands. -/
def Statement (i : Instr) : Prop :=
  i.WellFormed ∧ Bundle.cmd (encode i) ∈ legalWords ∧ Bundle.opA (encode i) = i.opA ∧ Bundle.opB (encode i) = i.opB

/-- What each constructor's lemma cites. -/
theorem of_wellFormed (i : Instr) (h : i.WellFormed) : Statement i :=
  ⟨h, by rw [encode, cmd_bundleOf]; exact cmd_mem_legalWords i, opA_bundleOf _ _ _, opB_bundleOf _ _ _⟩

theorem nop : Statement .nop := of_wellFormed _ trivial
theorem rst : Statement .rst := of_wellFormed _ trivial
theorem cnt (f : Bool) (count : W16) : Statement (.cnt f count) := of_wellFormed _ trivial
theorem fla : Statement .fla := of_wellFormed _ trivial
theorem arm (t : W64) (k : W16) : Statement (.arm t k) := of_wellFormed _ trivial
theorem xfd (f : Bool) : Statement (.xfd f) := of_wellFormed _ trivial
theorem dec : Statement .dec := of_wellFormed _ trivial
theorem run : Statement .run := of_wellFormed _ trivial

end Sys2Proof.Laws.LegalWord
end

