-- ==== Sys2Proof/Laws/Ports.lean ====
section
/-! SUPPORT. The bit views of STATUS, SFLAGS and ERR determine their fields, and what RXBUF's status port shows at each address. -/

namespace Sys2Proof.Machine

/-- STATUS determines the five elements it shows (R26). -/
theorem status_fields_eq {s t : State} (h : s.status = t.status) :
    s.phase = t.phase ∧ s.countClass = t.countClass ∧ s.drainErr = t.drainErr ∧ s.done = t.done ∧ s.flushReq = t.flushReq := by
  have key : ∀ (p q : Phase) (c d : CountClass) (a b e a' b' e' : Bool),
      (c.code ++ BitVec.ofBool a ++ BitVec.ofBool b ++ BitVec.ofBool e ++ p.code : BitVec 8) =
        d.code ++ BitVec.ofBool a' ++ BitVec.ofBool b' ++ BitVec.ofBool e' ++ q.code →
      p = q ∧ c = d ∧ a = a' ∧ b = b' ∧ e = e' := by
    intro p q c d a b e a' b' e'
    cases p <;> cases q <;> cases c <;> cases d <;> revert a b e a' b' e' <;> decide
  exact key _ _ _ _ _ _ _ _ _ _ h

/-- SFLAGS determines its five flags (R24). -/
theorem sampleFlags_bits_injective {f g : SampleFlags} (h : f.bits = g.bits) : f = g := by
  obtain ⟨a, b, c, d, e⟩ := f
  obtain ⟨a', b', c', d', e'⟩ := g
  revert a b c d e a' b' c' d' e'
  decide

/-- ERR determines its three flags (R25). -/
theorem errFlags_bits_injective {f g : ErrFlags} (h : f.bits = g.bits) : f = g := by
  obtain ⟨a, b, c⟩ := f
  obtain ⟨a', b', c'⟩ := g
  revert a b c a' b' c'
  decide

@[simp] theorem rxbufShown_length (s : State) : (rxbufShown s).length = s.cfg.fifoCapacity := by
  simp [rxbufShown]

/-- RXBUF's port shows at every address what a read of that address gives. -/
theorem rxbufShown_getElem? (s : State) {a : Nat} (h : a < s.cfg.fifoCapacity) : (rxbufShown s)[a]? = some (rxByte s a) := by
  simp [rxbufShown, h]

end Sys2Proof.Machine
end

