-- ==== Sys2Proof/Laws/Step.lean ====
section
/-! SUPPORT. What each shared operation, each meaning and the step can do, said once: proofs cite these lemmas and unfold nothing. -/

namespace Sys2Proof.Machine

/-! Shared operations. -/

theorem raise_eq (c : Condition) (s : State) : raise c s = .next (raiseState c s) := rfl

theorem andThen_eq_next {r : Result} {f : State → Result} {t : State} :
    andThen r f = .next t ↔ ∃ u, r = .next u ∧ f u = .next t := by
  cases r <;> simp [andThen]

@[simp] theorem andThen_next (s : State) (f : State → Result) : andThen (.next s) f = f s := rfl
@[simp] theorem andThen_fault (e : Fault) (f : State → Result) : andThen (.fault e) f = .fault e := rfl
@[simp] theorem andThen_refused (e : Refusal) (f : State → Result) : andThen (.refused e) f = .refused e := rfl

/-- A saturating increment never lowers a counter. -/
theorem le_satInc (c : W32) : c.toNat ≤ (satInc c).toNat := by
  unfold satInc; split
  · have h1 : (1 : W32).toNat = 1 := rfl
    rw [BitVec.toNat_add, h1]; omega
  · exact Nat.le_refl _

theorem le_countIf (e : Bool) (c : W32) : c.toNat ≤ (countIf e c).toNat := by
  unfold countIf; split
  · exact le_satInc c
  · exact Nat.le_refl _

/-- The body of DEC at a cursor `i + 1`. -/
theorem decodeNext_succ {s : State} {i : Nat} (h : s.idx.toNat = i + 1) :
    decodeNext s = if recordInBuffer s.cfg i then .next (recordState i s)
      else .fault (.rxAddress (recordBase s.cfg i)) := by
  simp only [decodeNext, h]

theorem decodeNext_zero {s : State} (h : s.idx.toNat = 0) : decodeNext s = .fault .noRecordLeft := by
  simp only [decodeNext, h]

/-- What the body of DEC does when it answers a next state. -/
theorem decodeNext_eq_next {s t : State} (h : decodeNext s = .next t) :
    ∃ i, s.idx.toNat = i + 1 ∧ recordInBuffer s.cfg i = true ∧ t = recordState i s := by
  cases hn : s.idx.toNat with
  | zero => rw [decodeNext_zero hn] at h; cases h
  | succ i =>
    rw [decodeNext_succ hn] at h
    split at h
    · cases h; exact ⟨i, rfl, by assumption, rfl⟩
    · cases h

/-- The loop of RUN keeps every property that the decode of one record keeps. -/
theorem runLoop_keeps {P : State → Prop}
    (hrec : ∀ s i, P s → s.phase = .decoding → s.idx.toNat = i + 1 → recordInBuffer s.cfg i = true →
      P (recordState i s)) :
    ∀ {n : Nat} {s t : State}, P s → runLoop n s = .next t → P t
  | 0, s, t, hs, h => by cases h; exact hs
  | n + 1, s, t, hs, h => by
    unfold runLoop at h
    split at h
    · next hd =>
      obtain ⟨u, hu, ht⟩ := andThen_eq_next.mp h
      obtain ⟨i, hi, hb, rfl⟩ := decodeNext_eq_next hu
      exact runLoop_keeps hrec (hrec s i hs hd hi hb) ht
    · cases h; exact hs

/-! The meanings. -/

theorem execCnt_eq_next {f : Bool} {c : W16} {s t : State} (h : execCnt f c s = .next t) :
    (s.phase = .idle ∧ t = countState f (cntValue c f) s) ∨ (s.phase ≠ .idle ∧ t = raiseState .seq s) := by
  unfold execCnt at h; split at h <;> cases h
  · exact .inl ⟨by assumption, rfl⟩
  · exact .inr ⟨by assumption, rfl⟩

theorem execFla_eq_next {s t : State} (h : execFla s = .next t) :
    (s.phase = .idle ∧ t = flushAckState s) ∨ (s.phase ≠ .idle ∧ t = raiseState .seq s) := by
  unfold execFla at h; split at h <;> cases h
  · exact .inl ⟨by assumption, rfl⟩
  · exact .inr ⟨by assumption, rfl⟩

theorem execArm_eq_next {tm : W64} {k : W16} {s t : State} (h : execArm tm k s = .next t) :
    (s.phase = .idle ∧ s.flushReq = false ∧ 1 ≤ k.toNat ∧ k.toNat ≤ s.cfg.maxBatch ∧ t = armState tm k s) ∨
      (s.phase = .idle ∧ s.flushReq = false ∧ (k.toNat = 0 ∨ s.cfg.maxBatch < k.toNat) ∧ t = raiseState .arg s) ∨
      ((s.phase ≠ .idle ∨ s.flushReq = true) ∧ t = raiseState .seq s) := by
  unfold execArm at h
  split at h
  · cases h; exact .inr (.inr ⟨.inl (by assumption), rfl⟩)
  · next hp =>
    have hp' : s.phase = .idle := not_not.mp hp
    split at h
    · cases h; exact .inr (.inr ⟨.inr (by assumption), rfl⟩)
    · next hf =>
      have hf' : s.flushReq = false := by simpa using hf
      split at h
      · cases h; exact .inr (.inl ⟨hp', hf', by assumption, rfl⟩)
      · cases h; exact .inl ⟨hp', hf', by omega, by omega, rfl⟩

theorem execXfd_eq_next {f : Bool} {s t : State} (h : execXfd f s = .next t) :
    (s.phase = .armed ∧ f = true ∧ t = xferOkState s) ∨ (s.phase = .armed ∧ f = false ∧ t = xferFailState s) ∨
      (s.phase ≠ .armed ∧ t = raiseState .seq s) := by
  unfold execXfd at h; split at h <;> cases h
  · cases f
    · exact .inr (.inl ⟨by assumption, rfl, rfl⟩)
    · exact .inl ⟨by assumption, rfl, rfl⟩
  · exact .inr (.inr ⟨by assumption, rfl⟩)

theorem execDec_eq_next {s t : State} (h : execDec s = .next t) :
    (s.phase = .decoding ∧ ∃ i, s.idx.toNat = i + 1 ∧ recordInBuffer s.cfg i = true ∧ t = recordState i s) ∨
      (s.phase ≠ .decoding ∧ t = raiseState .seq s) := by
  unfold execDec at h; split at h
  · exact .inl ⟨by assumption, decodeNext_eq_next h⟩
  · cases h; exact .inr ⟨by assumption, rfl⟩

theorem execRun_eq_next {s t : State} (h : execRun s = .next t) :
    (s.phase = .decoding ∧ runLoop (s.idx.toNat + 1) s = .next t) ∨ (s.phase ≠ .decoding ∧ t = raiseState .seq s) := by
  unfold execRun at h; split at h
  · exact .inl ⟨by assumption, h⟩
  · cases h; exact .inr ⟨by assumption, rfl⟩

/-- A property every operation's own effect keeps is kept by every operation. -/
theorem exec_keeps {P : State → Prop}
    (hraise : ∀ s c, P s → P (raiseState c s))
    (hreset : ∀ s, P s → P (resetRegisters s))
    (hcnt : ∀ s f bc, P s → s.phase = .idle → P (countState f bc s))
    (hfla : ∀ s, P s → s.phase = .idle → P (flushAckState s))
    (harm : ∀ s t k, P s → s.phase = .idle → s.flushReq = false → 1 ≤ k.toNat → k.toNat ≤ s.cfg.maxBatch →
      P (armState t k s))
    (hok : ∀ s, P s → s.phase = .armed → P (xferOkState s))
    (hfail : ∀ s, P s → s.phase = .armed → P (xferFailState s))
    (hrec : ∀ s i, P s → s.phase = .decoding → s.idx.toNat = i + 1 → recordInBuffer s.cfg i = true →
      P (recordState i s))
    {i : Instr} {s t : State} (hs : P s) (h : exec i s = .next t) : P t := by
  cases i with
  | nop => cases h; exact hs
  | rst => cases h; exact hreset s hs
  | cnt f c =>
    rcases execCnt_eq_next h with ⟨hp, rfl⟩ | ⟨-, rfl⟩
    · exact hcnt s _ _ hs hp
    · exact hraise s _ hs
  | fla =>
    rcases execFla_eq_next h with ⟨hp, rfl⟩ | ⟨-, rfl⟩
    · exact hfla s hs hp
    · exact hraise s _ hs
  | arm tm k =>
    rcases execArm_eq_next h with ⟨hp, hf, h1, h2, rfl⟩ | ⟨-, -, -, rfl⟩ | ⟨-, rfl⟩
    · exact harm s tm k hs hp hf h1 h2
    · exact hraise s _ hs
    · exact hraise s _ hs
  | xfd f =>
    rcases execXfd_eq_next h with ⟨hp, -, rfl⟩ | ⟨hp, -, rfl⟩ | ⟨-, rfl⟩
    · exact hok s hs hp
    · exact hfail s hs hp
    · exact hraise s _ hs
  | dec =>
    rcases execDec_eq_next h with ⟨hp, i, hi, hb, rfl⟩ | ⟨-, rfl⟩
    · exact hrec s i hs hp hi hb
    · exact hraise s _ hs
  | run =>
    rcases execRun_eq_next h with ⟨-, h⟩ | ⟨-, rfl⟩
    · exact runLoop_keeps hrec hs h
    · exact hraise s _ hs

/-! The step. -/

/-- With a well-formed configuration a step takes the next move. -/
theorem step_eq_nextMove {s : State} (h : s.cfg.WellFormed) : step s = nextMove s := if_pos h

theorem step_eq_refused {s : State} (h : ¬ s.cfg.WellFormed) : step s = .refused .illFormedConfig := if_neg h

theorem step_noMove {s : State} (h : s.cfg.WellFormed) (hs : s.script = []) : step s = .next s := by
  rw [step_eq_nextMove h, nextMove, hs]

theorem step_move {s : State} {m : EnvMove} {rest : List EnvMove} (h : s.cfg.WellFormed) (hs : s.script = m :: rest) :
    step s = moveStep m (withScript rest s) := by
  rw [step_eq_nextMove h, nextMove, hs]

/-- A bundle put at the head of the script is the next one issued. -/
theorem step_placeBundle {s : State} (b : Bundle) (h : s.cfg.WellFormed) : step (placeBundle b s) = issueBundle b s :=
  step_move (s := placeBundle b s) h rfl

theorem issueBundle_ok {b : Bundle} {i : Instr} (h : decode b = .ok i) (s : State) : issueBundle b s = exec i s := by
  rw [issueBundle, h]

theorem issueBundle_error {b : Bundle} {e : DecodeError} (h : decode b = .error e) (s : State) :
    issueBundle b s = .next (raiseState .illegal s) := by
  rw [issueBundle, h]; rfl

theorem transportMove_ok {s : State} {a : Nat} {bytes : List Byte} (h : s.phase = .armed)
    (h1 : a + bytes.length ≤ s.xferLen.toNat) (h2 : a + bytes.length ≤ s.cfg.fifoCapacity) :
    transportMove a bytes s = .next (storeBurst a bytes s) := by
  rw [transportMove, if_pos h, if_pos ⟨h1, h2⟩]

/-- What a step can do: nothing, one bundle, one transport write, or one of the two hardware resets. -/
theorem step_eq_next {s t : State} (h : step s = .next t) :
    s.cfg.WellFormed ∧
      ((s.script = [] ∧ t = s) ∨
        (∃ b rest, s.script = .issue b :: rest ∧ issueBundle b (withScript rest s) = .next t) ∨
        (∃ a bs rest, s.script = .rx a bs :: rest ∧ s.phase = .armed ∧ a + bs.length ≤ s.xferLen.toNat ∧
          a + bs.length ≤ s.cfg.fifoCapacity ∧ t = storeBurst a bs (withScript rest s)) ∨
        (∃ rest, s.script = .hardReset :: rest ∧ t = resetRegisters (withScript rest s)) ∨
        (∃ rest, s.script = .powerOn :: rest ∧ t = powerOnState (withScript rest s))) := by
  unfold step stepBody at h
  split at h
  · next hc =>
    refine ⟨hc, ?_⟩
    unfold nextMove at h
    split at h
    · next hs => cases h; exact .inl ⟨hs, rfl⟩
    · next m rest hs =>
      cases m with
      | issue b => exact .inr (.inl ⟨b, rest, hs, h⟩)
      | rx a bs =>
        simp only [moveStep, transportMove] at h
        split at h
        · next hp =>
          split at h
          · next hl => cases h; exact .inr (.inr (.inl ⟨a, bs, rest, hs, hp, hl.1, hl.2, rfl⟩))
          · cases h
        · cases h
      | hardReset => cases h; exact .inr (.inr (.inr (.inl ⟨rest, hs, rfl⟩)))
      | powerOn => cases h; exact .inr (.inr (.inr (.inr ⟨rest, hs, rfl⟩)))
  · cases h

/-- What issuing a bundle can do: its operation, or ILLEGAL. -/
theorem issueBundle_eq_next {b : Bundle} {s t : State} (h : issueBundle b s = .next t) :
    (∃ i, decode b = .ok i ∧ exec i s = .next t) ∨ (∃ e, decode b = .error e ∧ t = raiseState .illegal s) := by
  unfold issueBundle at h
  split at h
  · exact .inl ⟨_, by assumption, h⟩
  · cases h; exact .inr ⟨_, by assumption, rfl⟩

/-- A property that every operation's own effect, the transport's write, the two resets and the taking of a move keep is kept by
every step. -/
theorem step_keeps {P : State → Prop}
    (hscript : ∀ s l, P s → P (withScript l s))
    (hraise : ∀ s c, P s → P (raiseState c s))
    (hreset : ∀ s, P s → P (resetRegisters s))
    (hpower : ∀ s, P s → P (powerOnState s))
    (hstore : ∀ s a bs, P s → s.phase = .armed → a + bs.length ≤ s.xferLen.toNat →
      a + bs.length ≤ s.cfg.fifoCapacity → P (storeBurst a bs s))
    (hcnt : ∀ s f bc, P s → s.phase = .idle → P (countState f bc s))
    (hfla : ∀ s, P s → s.phase = .idle → P (flushAckState s))
    (harm : ∀ s t k, P s → s.phase = .idle → s.flushReq = false → 1 ≤ k.toNat → k.toNat ≤ s.cfg.maxBatch →
      P (armState t k s))
    (hok : ∀ s, P s → s.phase = .armed → P (xferOkState s))
    (hfail : ∀ s, P s → s.phase = .armed → P (xferFailState s))
    (hrec : ∀ s i, P s → s.phase = .decoding → s.idx.toNat = i + 1 → recordInBuffer s.cfg i = true →
      P (recordState i s))
    {s t : State} (hs : P s) (h : step s = .next t) : P t := by
  rcases (step_eq_next h).2 with ⟨-, rfl⟩ | ⟨b, rest, -, hb⟩ | ⟨a, bs, rest, -, hp, h1, h2, rfl⟩ | ⟨rest, -, rfl⟩ |
    ⟨rest, -, rfl⟩
  · exact hs
  · rcases issueBundle_eq_next hb with ⟨i, -, hi⟩ | ⟨e, -, rfl⟩
    · exact exec_keeps hraise hreset hcnt hfla harm hok hfail hrec (hscript s rest hs) hi
    · exact hraise _ _ (hscript s rest hs)
  · exact hstore _ a bs (hscript s rest hs) hp h1 h2
  · exact hreset _ (hscript s rest hs)
  · exact hpower _ (hscript s rest hs)

end Sys2Proof.Machine
end

