-- ==== Sys2Proof/Tests/Slice0.lean ====
section
/-! SUPPORT. The model's own tests: configurations the check refuses, bundles written out from spec 30_encoding, the vectors of 95_test_vectors, and for each obligation with hypotheses a state and operands that meet them. -/

namespace Sys2Proof.Tests

set_option Elab.async false

open Sys2Proof.Machine

/-! ## States and values the tests share -/

/-- A field of the next state; `none` where there is none. -/
def nextField {α : Type} (r : Result) (f : State → α) : Option α :=
  match r with
  | .next s => some (f s)
  | .fault _ => none
  | .refused _ => none

/-- The four counters in the order of 95_test_vectors section 2.5. -/
def counters (s : State) : List Nat :=
  [s.fifoEmptyCnt.toNat, s.fifoOverflowCnt.toNat, s.fifoResetCnt.toNat, s.badXferCnt.toNat]

/-- The six result registers and TEMP_RAW as integers. -/
def results (s : State) : List Int :=
  [s.ax.toInt, s.ay.toInt, s.az.toInt, s.gx.toInt, s.gy.toInt, s.gz.toInt, s.tempRaw.toInt]

/-- The header-slack bytes of 95_test_vectors section 3. -/
def slack : List Byte := [0xAA, 0xBB, 0xCC, 0xDD]

/-- Record R1 (V-R1). -/
def r1 : List Byte :=
  [0x68, 0x00, 0xFA, 0xFE, 0x0C, 0x08, 0x00, 0x00, 0x0C, 0xFF, 0xE7, 0x00, 0x00, 0x01, 0x2C, 0x00, 0x00, 0x08, 0x00, 0x02]

/-- Record R2 (V-R2). -/
def r2 : List Byte :=
  [0x68, 0x20, 0x00, 0xFE, 0x0C, 0x00, 0xFA, 0x00, 0x0C, 0xFF, 0xE7, 0x00, 0x00, 0x01, 0x2C, 0x00, 0x00, 0x08, 0x00, 0x02]

/-- Record R5 (V-R5), which carries the accelerometer sentinel. -/
def r5 : List Byte :=
  [0x68, 0x00, 0xFA, 0x80, 0x00, 0x08, 0x00, 0x00, 0x0C, 0xFF, 0xE7, 0x00, 0x00, 0x01, 0x2C, 0x00, 0x00, 0x08, 0x00, 0x02]

/-- After `ARM 1000000, 2`. -/
def armed : State := armState 1000000 2 State.reset

/-- Program P1 after its XFD: record 0 is R1, record 1 is R2. -/
def decoding : State := xferOkState (storeBurst 0 (slack ++ r1 ++ r2) armed)

/-- One invalid record (R5) waits to be decoded. -/
def decodingBad : State := xferOkState (storeBurst 0 (slack ++ r5) (armState 5000 1 State.reset))

/-- After `CNT 2048, ok`. -/
def flushing : State := countState true 2048 State.reset

/-- A state whose next moves are these. -/
def facing (l : List EnvMove) (s : State) : State := withScript l s

/-- The configuration of 95_test_vectors section 2.9. -/
def scaled : Scaling := ⟨1 / 8192, 1 / 2048, 1 / 100, 8 / 100, 100, 25⟩

/-- The default configuration with those constants. -/
def scaledCfg : Cfg := { Cfg.default with scaling := some scaled }

/-- The decode of a record's bytes at the default layout, as integers: AX to GZ, TEMP_RAW. -/
def decodedInts (bytes : List Byte) : List Int :=
  let d := decodeRecord true (recordBytes (fun o => bytes.getD o 0) Offsets.default)
  [d.acc.x.toInt, d.acc.y.toInt, d.acc.z.toInt, d.gyr.x.toInt, d.gyr.y.toInt, d.gyr.z.toInt, d.temp.toInt]

/-- Its flags. -/
def decodedFlags (bytes : List Byte) : SampleFlags :=
  (decodeRecord true (recordBytes (fun o => bytes.getD o 0) Offsets.default)).flags

/-! ## Well-formedness: one ill-formed configuration for each condition of R10 -/

theorem test_default_wellFormed : Cfg.default.WellFormed := by decide

theorem test_cfg_a_refused : ¬ ({ Cfg.default with samplePeriodUs := 4294967296 } : Cfg).WellFormed := by decide

theorem test_cfg_a_zero_refused :
    ¬ ({ Cfg.default with recordSize := 0 } : Cfg).WellFormed ∧ ¬ ({ Cfg.default with maxBatch := 0 } : Cfg).WellFormed ∧
    ¬ ({ Cfg.default with samplePeriodUs := 0 } : Cfg).WellFormed := by decide

theorem test_cfg_b_refused : ¬ ({ Cfg.default with recordSize := 19 } : Cfg).WellFormed := by decide

theorem test_cfg_c_refused :
    ¬ ({ Cfg.default with offsets := { Offsets.default with tL := 13 } } : Cfg).WellFormed := by decide

theorem test_cfg_d_refused : ¬ ({ Cfg.default with fifoCapacity := 643 } : Cfg).WellFormed := by decide

theorem test_cfg_e_refused : ¬ ({ Cfg.default with fifoCapacity := 65536 } : Cfg).WellFormed := by decide

theorem test_cfg_f_refused : ¬ ({ Cfg.default with maxBatch := 65536 } : Cfg).BatchIs16Bit := by decide

theorem test_cfg_g_refused :
    ¬ ({ Cfg.default with scaling := some { scaled with tempSensitivity := 0 } } : Cfg).WellFormed := by decide +kernel

theorem test_illFormed_step_refused :
    step (State.resetWith { Cfg.default with fifoCapacity := 643 }) = .refused .illFormedConfig := by rfl

/-! ## Decoding: bundles written out bit by bit from R53, R54, R56 (op_a, op_b, rsv, f, opc) -/

theorem test_decode_nop : decode (0#64 ++ 0#16 ++ 0b000#3 ++ 0b0#1 ++ 0b0000#4) = .ok .nop := by decide +kernel

theorem test_decode_rst : decode (0#64 ++ 0#16 ++ 0b000#3 ++ 0b0#1 ++ 0b0001#4) = .ok .rst := by decide +kernel

theorem test_decode_cnt_ok :
    decode (0#64 ++ 0b0000000000101000#16 ++ 0b000#3 ++ 0b1#1 ++ 0b0010#4) = .ok (.cnt true 40) := by decide +kernel

theorem test_decode_cnt_fail :
    decode (0#64 ++ 0b0001001000110100#16 ++ 0b000#3 ++ 0b0#1 ++ 0b0010#4) = .ok (.cnt false 0x1234) := by decide +kernel

theorem test_decode_fla : decode (0#64 ++ 0#16 ++ 0b000#3 ++ 0b0#1 ++ 0b0011#4) = .ok .fla := by decide +kernel

theorem test_decode_arm :
    decode (0x00000000000F4240#64 ++ 0x0002#16 ++ 0b000#3 ++ 0b0#1 ++ 0b0100#4) = .ok (.arm 1000000 2) := by decide +kernel

theorem test_decode_xfd :
    decode (0#64 ++ 0#16 ++ 0b000#3 ++ 0b1#1 ++ 0b0101#4) = .ok (.xfd true) ∧
    decode (0#64 ++ 0#16 ++ 0b000#3 ++ 0b0#1 ++ 0b0101#4) = .ok (.xfd false) := by decide +kernel

theorem test_decode_dec : decode (0#64 ++ 0#16 ++ 0b000#3 ++ 0b0#1 ++ 0b0110#4) = .ok .dec := by decide +kernel

theorem test_decode_run : decode (0#64 ++ 0#16 ++ 0b000#3 ++ 0b0#1 ++ 0b0111#4) = .ok .run := by decide +kernel

/-- V-Q13: ignored operands are not checked. -/
theorem test_decode_ignores_operands : decode 0xFFFFFFFFFFFFFFFFFFFF00#88 = .ok .nop := by decide +kernel

/-- V-Q9 to V-Q12. -/
theorem test_decode_illegal :
    decode 0x10#88 = .error .flagNotUsed ∧ decode 0x17#88 = .error .flagNotUsed ∧
    decode 0x08#88 = .error .reservedOpcode ∧ decode 0x1F#88 = .error .reservedOpcode ∧
    decode 0x20#88 = .error .reservedBits ∧ decode 0x27#88 = .error .reservedBits ∧ decode 0xFF#88 = .error .reservedBits := by
  decide +kernel

/-- R57: ten of the 256 command words are legal. -/
theorem test_ten_legal_words :
    ((List.range 256).filter fun w => (decodeTableWord 88 w).isSome) =
      [0x00, 0x01, 0x02, 0x03, 0x04, 0x05, 0x06, 0x07, 0x12, 0x15] := by decide +kernel

theorem test_encode_arm : encode (.arm 1000000 2) = 0x00000000000F4240000204#88 := by decide +kernel

/-- The bundle of R67's example as it is written there. -/
theorem test_bundle_text : bundleText (encode (.arm 1000000 2)) = "00000000000F4240:0002:04".toList := by decide +kernel

/-! ## One step of each operation -/

/-- V-Q13: NOP in DECODING changes nothing. -/
theorem test_nop : exec .nop decoding = .next decoding := rfl

/-- V-Q14: RST in DECODING. -/
theorem test_rst :
    nextField (exec .rst { decoding with fifoOverflowCnt := 7, err := ⟨true, true, false⟩ })
      (fun t => (t.status, t.err, counters t, t.idx, t.rxbuf == decoding.rxbuf)) =
      some (0, ⟨false, false, false⟩, [0, 0, 0, 0], 0, true) := by decide +kernel

/-- V-C6: 659 bytes are 32 records. -/
theorem test_cnt_ok :
    nextField (exec (.cnt true 659) State.reset) (fun t => (t.countClass, t.samples, t.flushReq, counters t)) =
      some (.ok, 32, false, [0, 0, 0, 0]) := by decide +kernel

/-- V-C12: a failed count read is a count of 0, counted as empty and as a bad transfer. -/
theorem test_cnt_fail :
    nextField (exec (.cnt false 4660) State.reset) (fun t => (t.countClass, t.byteCount, t.flushReq, counters t)) =
      some (.empty, 0, false, [1, 0, 0, 1]) := by decide +kernel

/-- V-K2: FIFO_RESET_CNT stays at the top. -/
theorem test_fla :
    nextField (exec .fla { flushing with fifoResetCnt := 4294967295 }) (fun t => (t.flushReq, t.countClass, counters t)) =
      some (false, .ovfBytes, [0, 1, 4294967295, 0]) := by decide +kernel

/-- V-Q5: FLA in ARMED. -/
theorem test_fla_refused : exec .fla armed = .next { armed with err := ⟨false, true, false⟩ } := by rfl

/-- V-X4: the largest batch. -/
theorem test_arm :
    nextField (exec (.arm 1000000 32) State.reset) (fun t => (t.xferLen, t.status, t.err)) =
      some (644, 1, ⟨false, false, false⟩) := by decide +kernel

/-- V-Q8: SEQ wins over ARG. -/
theorem test_arm_seq_first :
    exec (.arm 1000000 0) flushing = .next { flushing with err := ⟨false, true, false⟩ } := by rfl

/-- P1 step 4. -/
theorem test_xfd_ok :
    nextField (exec (.xfd true) armed) (fun t => (t.idx, t.phase)) = some (2, .decoding) := by decide +kernel

/-- V-K4. -/
theorem test_xfd_fail :
    nextField (exec (.xfd false) { armed with badXferCnt := 5 })
      (fun t => (t.badXferCnt, t.drainErr, t.done, t.phase, t.validCount)) =
      some (6, true, false, .idle, 0) := by decide +kernel

/-- P1 step 5: the newest record is decoded first and gets T. -/
theorem test_dec :
    nextField (exec .dec decoding) (fun t => (t.idx, t.validCount, results t, t.ts, t.out.length)) =
      some (1, 1, [8192, 500, -250, 100, 200, -1, 300], 1000000, 1) := by decide +kernel

/-- V-R5: an invalid record is written to the registers and not emitted. -/
theorem test_dec_invalid :
    nextField (exec .dec decodingBad) (fun t => (results t, t.sflags.bits, t.out, t.validCount, t.done)) =
      some ([250, 32768, -2048, 100, 200, -1, 300], 0b01010, [], 0, true) := by decide +kernel

/-- P1's OUT, by RUN in place of two DECs. -/
theorem test_run_out :
    nextField (exec .run decoding) (fun t => t.out) =
      some [⟨8192, 500, -250, 100, 200, -1, 300, 1000000, true, false⟩,
        ⟨1000, 2000, -8192, 100, 200, -1, 300, 999000, false, false⟩] := by decide +kernel

/-- V-Q2: RUN in IDLE. -/
theorem test_run_refused : exec .run State.reset = .next { State.reset with err := ⟨false, true, false⟩ } := by rfl

/-! ## Vectors of the datapath and the counters -/

/-- V-A1 to V-A14: `reassemble20`, shifted by 2, by 1, and the 16-bit field. -/
theorem test_fields :
    ([(0x00, 0x00, 0x0), (0x12, 0x34, 0x5), (0x7F, 0xFF, 0xF), (0x80, 0x00, 0x0), (0xFF, 0xFF, 0xF), (0xED, 0xCB, 0xC),
      (0x80, 0x00, 0x1), (0x00, 0x00, 0xF), (0x08, 0x00, 0x0), (0xF7, 0xFF, 0xF), (0x20, 0x00, 0x0), (0x1F, 0xFF, 0xC),
      (0xE0, 0x00, 0x0), (0xDF, 0xFF, 0xC)] : List (Byte × Byte × Nibble)).map (fun p =>
        let v := reassemble20 p.1 p.2.1 p.2.2
        (v.toInt, (asr 2 v).toInt, (asr 1 v).toInt, (field16 p.1 p.2.1).toInt)) =
      [(0, 0, 0, 0), (74565, 18641, 37282, 4660), (524287, 131071, 262143, 32767), (-524288, -131072, -262144, -32768),
        (-1, -1, -1, -1), (-74564, -18641, -37282, -4661), (-524287, -131072, -262144, -32768), (15, 3, 7, 0),
        (32768, 8192, 16384, 2048), (-32769, -8193, -16385, -2049), (131072, 32768, 65536, 8192),
        (131068, 32767, 65534, 8191), (-131072, -32768, -65536, -8192), (-131076, -32769, -65538, -8193)] := by
  decide +kernel

/-- V-B1 to V-B7. -/
theorem test_temperature :
    ([(0x00, 0x00), (0x01, 0x2C), (0x80, 0x00), (0xFF, 0xFF), (0x7F, 0xFF), (0x80, 0x01), (0xF3, 0x18)] : List (Byte × Byte)).map
        (fun p => ((temp16 p.1 p.2).toInt, tempBad (temp16 p.1 p.2))) =
      [(0, false), (300, false), (-32768, true), (-1, false), (32767, false), (-32767, false), (-3304, false)] := by
  decide +kernel

/-- V-R1. -/
theorem test_record_primary :
    decodedInts r1 = [1000, 2000, -8192, 100, 200, -1, 300] ∧ decodedFlags r1 = ⟨true, false, false, false, false⟩ := by
  decide +kernel

/-- V-R2. -/
theorem test_record_coarse_accel :
    decodedInts r2 = [8192, 500, -250, 100, 200, -1, 300] ∧ decodedFlags r2 = ⟨true, false, false, true, false⟩ := by
  decide +kernel

/-- V-R3: the last values that fit 16 bits, and the negation of -32768. -/
theorem test_record_boundary :
    let r : List Byte := [0x68, 0x1F, 0xFF, 0xE0, 0x00, 0x00, 0x00, 0x0F, 0xFF, 0xF0, 0x00, 0x00, 0x00, 0xF3, 0x18, 0x00, 0x00, 0xCE, 0x00, 0x00]
    decodedInts r = [32767, 32768, 0, 32767, 32768, 0, -3304] ∧ decodedFlags r = ⟨true, false, false, false, false⟩ := by
  decide +kernel

/-- V-R4. -/
theorem test_record_coarse_gyro :
    let r : List Byte := [0x68, 0x00, 0xFA, 0xFE, 0x0C, 0x08, 0x00, 0x0F, 0xFF, 0xF0, 0x00, 0xEF, 0xFF, 0x01, 0x2C, 0x00, 0x00, 0x0E, 0x00, 0x0E]
    decodedInts r = [1000, 2000, -8192, 4095, 4096, 4097, 300] ∧ decodedFlags r = ⟨true, false, false, false, true⟩ := by
  decide +kernel

/-- V-R6 and V-R7: the temperature sentinel, and every byte 0xFF. -/
theorem test_record_temp_and_ones :
    let r : List Byte := [0x68, 0x00, 0xFA, 0xFE, 0x0C, 0x08, 0x00, 0x00, 0x0C, 0xFF, 0xE7, 0x00, 0x00, 0x80, 0x00, 0x00, 0x00, 0x08, 0x00, 0x02]
    decodedFlags r = ⟨false, false, true, false, false⟩ ∧
    decodedInts (List.replicate 20 0xFF) = [-1, 1, 1, -1, 1, 1, -1] ∧
    decodedFlags (List.replicate 20 0xFF) = ⟨true, false, false, false, false⟩ := by
  decide +kernel

/-- V-R8: there is no gyroscope sentinel. -/
theorem test_record_gyro_min :
    let r : List Byte := [0x68, 0x00, 0xFA, 0xFE, 0x0C, 0x08, 0x00, 0x80, 0x00, 0x00, 0x00, 0x00, 0x00, 0x01, 0x2C, 0x00, 0x00, 0x00, 0x00, 0x00]
    decodedInts r = [1000, 2000, -8192, -32768, 0, 0, 300] ∧ decodedFlags r = ⟨true, false, false, false, true⟩ := by
  decide +kernel

/-- V-R9: low bits that are not zero round toward minus infinity. -/
theorem test_record_low_bits :
    decodedInts [0x68, 0xFF, 0xFF, 0xFF, 0xFF, 0x00, 0x00, 0xFF, 0xFF, 0x00, 0x00, 0xFF, 0xFF, 0x00, 0x00, 0x00, 0x00, 0xDF, 0xF1, 0x3D] =
      [-1, 1, 0, -1, 0, 2, 0] := by decide +kernel

/-- V-R10: which nibble is whose. -/
theorem test_record_nibbles :
    decodedInts [0, 0, 0, 0, 0, 0, 0, 0, 0, 0, 0, 0, 0, 0, 0, 0, 0, 0xA5, 0, 0] = [2, 0, 0, 2, 0, 0, 0] := by decide +kernel

/-- V-R11: both sentinels. -/
theorem test_record_both_sentinels :
    let r : List Byte := [0x68, 0x80, 0, 0x80, 0, 0x80, 0, 0, 0, 0, 0, 0, 0, 0x80, 0, 0, 0, 0, 0, 0]
    decodedInts r = [-32768, 32768, 32768, 0, 0, 0, -32768] ∧ decodedFlags r = ⟨false, true, true, true, false⟩ := by
  decide +kernel

/-- V-R12: both sensors coarse. -/
theorem test_record_full_scale :
    let r : List Byte := [0x68, 0x7F, 0xFF, 0x80, 0x00, 0x20, 0x00, 0x7F, 0xFF, 0x80, 0x00, 0x10, 0x00, 0x7F, 0xFF, 0x00, 0x00, 0xCE, 0x42, 0x00]
    decodedInts r = [32767, 32768, -8192, 32767, 32768, -4096, 32767] ∧ decodedFlags r = ⟨true, false, false, true, true⟩ := by
  decide +kernel

/-- V-T1 to V-T8. -/
theorem test_timestamps :
    ([(1000000, 1, 0), (1000000, 3, 2), (1000000, 3, 1), (1000000, 3, 0), (5000000, 32, 0), (31000, 32, 0), (500, 2, 0), (0, 1, 0)] :
        List (W64 × Nat × Nat)).map (fun p => recordTs p.1 p.2.1 p.2.2 1000) =
      [1000000, 1000000, 999000, 998000, 4969000, 0, 18446744073709551116, 0] := by decide +kernel

/-- V-C1 to V-C10: class code, samples, flush. -/
theorem test_classify :
    ([0, 19, 20, 39, 640, 659, 660, 2047, 2048, 65535] : List W16).map
        (fun b => let r := classify Cfg.default b; (r.cls.code.toNat, r.samples.toNat, r.flush)) =
      [(2, 0, false), (2, 0, false), (1, 1, false), (1, 1, false), (1, 32, false), (1, 32, false), (4, 0, true), (4, 0, true),
        (3, 0, true), (3, 0, true)] := by decide +kernel

/-- V-S1 and V-S2. -/
theorem test_scaling :
    scaleSample scaledCfg ⟨1000, 2000, -8192, 100, 200, -1, 300, 0, false, false⟩ =
      some ⟨⟨125 / 1024, 125 / 512, -1⟩, ⟨1, 2, -1 / 100⟩, 28⟩ ∧
    scaleSample scaledCfg ⟨8192, 500, -250, 100, 200, -1, 300, 0, true, false⟩ =
      some ⟨⟨4, 125 / 512, -125 / 1024⟩, ⟨1, 2, -1 / 100⟩, 28⟩ := by decide +kernel

/-- R68: the count word of READCOUNT is big-endian (95_test_vectors section 2.5). -/
theorem test_readcount : (ScriptLine.readCount 0x28 0x00 true).instrs = [.cnt true 10240] := by decide +kernel

/-- R67: how lines are written. -/
theorem test_line_text :
    (ScriptLine.op (.cnt true 40)).text = "CNT 40, ok" ∧ (ScriptLine.drain 5000 1 false).text = "DRAIN 5000, 1, fail" := by
  decide +kernel

/-- STATUS of an armed FSD after a CNT of 40 bytes (R26): PHASE = 1, CLASS = 1. -/
theorem test_status : (armState 1000000 2 (countState true 40 State.reset)).status = 0b00100001 := by decide +kernel

/-- R13, R116: RXBUF's port shows the last byte of P1's burst, and OUT's port the two samples of P1's drain. -/
theorem test_ports :
    (decoding.statusPort .rxbuf)[43]? = some 0x02 ∧
    nextField (exec .run decoding) (fun t => (t.statusPort .out).length) = some 2 := by decide +kernel

/-- R12, R22: RES[3] is GX. -/
theorem test_res : nextField (exec .dec decoding) (fun t => (t.res 3, t.res 6)) = some (some 100, none) := by decide +kernel

/-! ## The step and the environment -/

/-- P5 step 1: command word 0x10. -/
theorem test_step_illegal :
    step (State.reset.withFetchWord 88 0x10) = .next { State.reset with err := ⟨true, false, false⟩ } := by rfl

/-- P1 step 3: the transport writes the last byte below XFER_LEN. -/
theorem test_step_rx :
    nextField (step (facing [.rx 43 [0x02]] armed)) (fun t => (t.rxbuf, rxByte t 43)) = some ([(43, 0x02)], 0x02) := by
  decide +kernel

/-- R44: one byte further is no move of the transport, and neither is any byte outside ARMED. -/
theorem test_step_rx_refused :
    step (facing [.rx 43 [0x02, 0x03]] armed) = .refused .transportBeyondTransfer ∧
    step (facing [.rx 0 [0x00]] decoding) = .refused .transportOutsideArmed := ⟨by rfl, by rfl⟩

/-- R44, R93: the bytes of a drain are still on RXBUF's port after the next ARM and after its XFD fail. -/
theorem test_bytes_stay :
    (nextField (andThen (exec .run decoding) (exec (.arm 2000000 1))) (fun t => (t.phase, (t.statusPort .rxbuf)[5]?))) =
      some (.armed, some 0x00) ∧
    (nextField (exec (.xfd false) (armState 2000000 1 { decoding with phase := .idle })) (fun t => rxByte t 23)) =
      some 0x02 := by decide +kernel

/-- R45: of a short burst reported as a success the written bytes are known and the others, below XFER_LEN only, are draws. -/
theorem test_short_burst :
    nextField (exec (.xfd true) (storeBurst 0 slack (armState 5 1 { decoding with phase := .idle })))
      (fun t => (memRead t.rxDraws 3, (memRead t.rxDraws 4).isSome, (memRead t.rxDraws 23).isSome, memRead t.rxDraws 24, rxByte t 24)) =
      some (none, true, true, none, 0x68) := by decide +kernel

/-- A write inside what is already written changes one byte and keeps the order of the addresses. -/
theorem test_memory_overwrite :
    memWriteList [(4, 0x11), (6, 0x22)] 5 [0xAA, 0xBB] = [(4, 0x11), (5, 0xAA), (6, 0xBB)] := by decide +kernel

/-- R101, R118: RST keeps OUT, power-on empties it. -/
theorem test_reset_keeps_out :
    let o : List OutSample := [⟨1, 2, 3, 4, 5, 6, 7, 8, false, false⟩]
    nextField (step (facing [.hardReset] { armed with out := o })) (fun t => (t.out, t.phase)) = some (o, .idle) ∧
    nextField (step (facing [.powerOn] { armed with out := o })) (fun t => (t.out, t.phase)) = some ([], .idle) := by
  decide +kernel

/-! ## Witnesses: states and operands that meet the hypotheses of the obligations -/

theorem test_seqInv_reset : SeqInv State.reset := by constructor <;> decide +kernel

theorem test_seqInv_armed : SeqInv armed := by constructor <;> decide +kernel

theorem test_seqInv_decoding : SeqInv decoding := by constructor <;> decide +kernel

theorem test_seqInv_decodingBad : SeqInv decodingBad := by constructor <;> decide +kernel

theorem test_seqInv_flushing : SeqInv flushing := by constructor <;> decide +kernel

/-- DecodeEncodeRoundTrip, EncodeKeepsUsedFields. -/
theorem test_witness_encoding :
    (Instr.arm 18446744073709551615 65535).WellFormed ∧ decode 0xFFFFFFFFFFFFFFFFFFFF04#88 = .ok (.arm 18446744073709551615 65535) ∧
    decode 0xFFFFFFFFFFFFFFFFFFFF12#88 = .ok (.cnt true 65535) ∧ decode 0xFFFFFFFFFFFFFFFFFFFF15#88 = .ok (.xfd true) := by
  decide +kernel

/-- OpcodeMapReadsFields: reserved bits 0 with both values of `f`, and one bundle for each way to be illegal. -/
theorem test_witness_fields :
    ((0x07#88).extractLsb' 5 3 = 0 ∧ (0x07#88).getLsbD 4 = false ∧ (0x07#88).extractLsb' 0 4 = 0x7#4) ∧
    ((0x15#88).extractLsb' 5 3 = 0 ∧ (0x15#88).getLsbD 4 = true ∧ (0x15#88).extractLsb' 0 4 = 0x5#4) ∧
    (0x20#88).extractLsb' 5 3 ≠ 0 ∧ 8 ≤ ((0x08#88).extractLsb' 0 4).toNat ∧
    ((0x14#88).getLsbD 4 = true ∧ (0x14#88).extractLsb' 0 4 = 0x4#4) := by decide +kernel

/-- IllegalWordOnlySetsIllegal: each side of the list. -/
theorem test_witness_words :
    (0xAB00000000000000000015#88).extractLsb' 0 8 ∈ legalWords ∧ (0x27#88).extractLsb' 0 8 ∉ legalWords := by decide +kernel

/-- StepRunsDecodedOperation: a bundle that decodes and one that does not. -/
theorem test_witness_step :
    State.reset.cfg.WellFormed ∧ (State.reset.withFetchWord 88 0x03).script = [.issue 0x03#88] ∧
    decode 0x03#88 = .ok .fla ∧ Instr.fla.WellFormed ∧ decode 0x13#88 = .error .flagNotUsed := by decide +kernel

/-- IllFormedConfigHasNoBehaviour: a batch that does not fit, and a sensitivity of 0. -/
theorem test_witness_illFormed :
    ¬ ({ Cfg.default with maxBatch := 103 } : Cfg).BatchFits ∧
    ¬ (∀ k, ({ Cfg.default with scaling := some { scaled with tempSensitivity := 0 } } : Cfg).scaling = some k → k.tempSensitivity ≠ 0) := by
  constructor
  · decide +kernel
  · intro h
    exact h _ rfl rfl

/-- StateIsRetainedWithoutMoves. -/
theorem test_witness_no_moves : armed.cfg.WellFormed ∧ armed.script = [] := by decide +kernel

/-- ConfigurationNeverChanges, CountersNeverDecrease, OutputIsAppendOnly: a step whose move is a CNT and answers a next state. -/
theorem test_witness_steps :
    (nextField (step (State.reset.withFetchWord 88 0x080012)) (fun t => (t.cfg == Cfg.default, t.fifoOverflowCnt))).isSome = true ∧
    (State.reset.withFetchWord 88 0x080012).script = [.issue 0x080012#88] ∧ decode 0x080012#88 = .ok (.cnt true 2048) := by
  decide +kernel

/-- EveryBundleIsAnswered, at the last record of a drain. -/
theorem test_witness_answered :
    SeqInv (facing [.issue 0x06#88] decodingBad) ∧ (facing [.issue 0x06#88] decodingBad).script = .issue 0x06#88 :: [] := by
  constructor
  · constructor <;> decide +kernel
  · decide

/-- TransportWritesBurst: the whole burst, ending at XFER_LEN. -/
theorem test_witness_burst :
    armed.cfg.WellFormed ∧ (facing [.rx 40 [1, 2, 3, 4]] armed).phase = .armed ∧
    40 + ([1, 2, 3, 4] : List Byte).length ≤ (facing [.rx 40 [1, 2, 3, 4]] armed).xferLen.toNat ∧
    (facing [.rx 40 [1, 2, 3, 4]] armed).xferLen.toNat ≤ armed.cfg.fifoCapacity := by decide +kernel

/-- TransportHasNoOtherStep: one byte past XFER_LEN, and a phase that is not ARMED. -/
theorem test_witness_no_burst :
    armed.phase = .armed ∧ armed.xferLen.toNat < 41 + ([1, 2, 3, 4] : List Byte).length ∧ decoding.phase ≠ .armed := by
  decide +kernel

/-- OperationsNeverWriteRxbuf: an XFD ok in ARMED, an address at XFER_LEN and one the transport wrote. -/
theorem test_witness_xfd_bytes :
    (storeBurst 0 slack armed).phase = .armed ∧ (storeBurst 0 slack armed).xferLen.toNat ≤ 44 ∧
    3 ∈ (storeBurst 0 slack armed).rxWin ∧
    (nextField (exec (.xfd true) (storeBurst 0 slack armed)) (fun t => t.phase)) = some .decoding := by decide +kernel

/-- RxbufChangesOnlyInArmed: a step outside ARMED, and one in ARMED with an address at XFER_LEN. -/
theorem test_witness_rxbuf_steps :
    (nextField (step (facing [.issue 0x07#88] decoding)) (fun t => t.phase)) = some .idle ∧ decoding.phase ≠ .armed ∧
    (nextField (step (facing [.rx 40 [1, 2, 3, 4]] armed)) (fun t => t.phase)) = some .armed ∧ armed.xferLen.toNat ≤ 44 ∧
    (∀ rest, (facing [.issue 0x07#88] decoding).script ≠ .powerOn :: rest) := by
  refine ⟨by decide +kernel, by decide +kernel, by decide +kernel, by decide +kernel, fun rest h => ?_⟩
  cases h

/-- OperationsNeverWriteRxbuf: DEC answers a next state and is no XFD. -/
theorem test_witness_dec_next :
    (nextField (exec .dec decoding) (fun t => t.rxbuf == decoding.rxbuf)) = some true ∧ Instr.dec ≠ .xfd true := by
  decide +kernel

/-- NopChangesNothing, RstClearsEveryRegister, CntClassifiesAndCounts, FlaAcknowledgesFlush, ArmSetsUpDrain, XfdEndsTransfer,
DecDecodesOneRecord, RunEqualsRemainingDecs: bundles with the command words they speak of, operands all ones. -/
theorem test_witness_command_words :
    ([0x00, 0x10, 0x01, 0x11, 0x12, 0x02, 0x03, 0x13, 0x04, 0x14, 0x15, 0x05, 0x06, 0x16, 0x07, 0x17] : List Byte).all
      (fun c => (bundleOf (-1) (-1) c).extractLsb' 0 8 == c) = true := by decide +kernel

/-- HardwareResetValues: each reset move. -/
theorem test_witness_resets :
    (facing [.hardReset] decoding).cfg.WellFormed ∧ (facing [.hardReset] decoding).script = .hardReset :: [] ∧
    (facing [.powerOn] decoding).script = .powerOn :: [] := by decide +kernel

/-- CntClassifiesAndCounts: the first and last byte count of every class, and both phases that refuse. -/
theorem test_witness_cnt :
    let d := Cfg.default
    (d.fifoCapacity ≤ 2048 ∧ d.fifoCapacity ≤ 65535) ∧
    (0 / d.recordSize = 0 ∧ 19 / d.recordSize = 0) ∧
    (20 / d.recordSize ≠ 0 ∧ 20 / d.recordSize ≤ d.maxBatch ∧ 659 / d.recordSize ≤ d.maxBatch) ∧
    (660 < d.fifoCapacity ∧ d.maxBatch < 660 / d.recordSize ∧ 2047 < d.fifoCapacity ∧ d.maxBatch < 2047 / d.recordSize) ∧
    State.reset.phase = .idle ∧ armed.phase ≠ .idle ∧ decoding.phase ≠ .idle := by decide +kernel

/-- CntClassifiesAndCounts: an OVF_BATCH at the boundary, with a flush already pending. -/
theorem test_witness_cnt_batch :
    nextField (exec (.cnt true 660) flushing) (fun t => (t.countClass, t.samples, t.flushReq, counters t)) =
      some (.ovfBatch, 0, true, [0, 2, 0, 0]) := by decide +kernel

/-- PendingFlushBlocksDrains: a pending flush, and an operation that is neither FLA nor RST. -/
theorem test_witness_flush :
    SeqInv flushing ∧ flushing.flushReq = true ∧ exec .nop flushing = .next flushing ∧ Instr.nop ≠ .fla ∧ Instr.nop ≠ .rst :=
  ⟨test_seqInv_flushing, by decide +kernel, rfl, by decide, by decide⟩

/-- ArmSetsUpDrain: K at both ends of its range and just outside, a pending flush, and a phase that is not IDLE. -/
theorem test_witness_arm :
    State.reset.cfg.WellFormed ∧ State.reset.phase = .idle ∧ State.reset.flushReq = false ∧
    (1 ≤ (1#16).toNat ∧ (32#16).toNat ≤ State.reset.cfg.maxBatch) ∧ (0#16).toNat = 0 ∧
    State.reset.cfg.maxBatch < (33#16).toNat ∧ flushing.flushReq = true ∧ armed.phase ≠ .idle := by decide +kernel

/-- XfdEndsTransfer, DecDecodesOneRecord, RunEqualsRemainingDecs: the phases that accept and one that refuses. -/
theorem test_witness_drain_phases :
    (SeqInv armed ∧ armed.phase = .armed) ∧ (SeqInv decoding ∧ decoding.phase = .decoding) ∧
    (SeqInv decodingBad ∧ decodingBad.phase = .decoding) ∧ State.reset.phase ≠ .armed ∧ State.reset.phase ≠ .decoding :=
  ⟨⟨test_seqInv_armed, by decide +kernel⟩, ⟨test_seqInv_decoding, by decide +kernel⟩,
    ⟨test_seqInv_decodingBad, by decide +kernel⟩, by decide, by decide⟩

/-- DecDecodesOneRecord: a valid record that is not the last, and an invalid one that is. -/
theorem test_witness_dec_clauses :
    (decoding.idx.toNat - 1 ≠ 0 ∧ (refDecode true (fetchRecord decoding 1)).flags.valid = true) ∧
    (decodingBad.idx.toNat - 1 = 0 ∧ (refDecode true (fetchRecord decodingBad 0)).flags.valid = false) := by decide +kernel

/-- RunEmitsValidRecordsNewestFirst, DrainTimestampsDecrease: T covers the span of the batch. -/
theorem test_witness_drain_span :
    (decoding.kLat.toNat - 1) * decoding.cfg.samplePeriodUs ≤ decoding.tLat.toNat ∧
    (drainSamples decoding decoding.idx.toNat).length = 2 := by decide +kernel

/-- DrainReadsBelowXferLen: the last byte of the newest record. -/
theorem test_witness_drain_reads :
    1 < decoding.kLat.toNat ∧ 19 ∈ decoding.cfg.offsets.list ∧ recordBase decoding.cfg 1 + 19 = 43 := by decide +kernel

/-- The burst of `decoding` with other slack bytes and other header and sensor-timestamp bytes in record 0. -/
def decodingOther : State :=
  xferOkState (storeBurst 0 ([1, 2, 3, 4] ++ [0x00] ++ ((r1.drop 1).take 14) ++ [5, 6] ++ r1.drop 17 ++ r2) armed)

/-- UnreadBytesDoNotMatter: two states that differ in bytes at none of the seventeen offsets. -/
theorem test_witness_unread :
    decodingOther = { decoding with
      rxbuf := decodingOther.rxbuf, rxWin := decodingOther.rxWin, rxDraws := decodingOther.rxDraws
      powerEpoch := decodingOther.powerEpoch } ∧
    (∀ j < decoding.idx.toNat, ∀ o ∈ decoding.cfg.offsets.list,
      rxByte decodingOther (decoding.cfg.headerSlack + j * decoding.cfg.recordSize + o) =
        rxByte decoding (decoding.cfg.headerSlack + j * decoding.cfg.recordSize + o)) ∧
    decodingOther ≠ decoding ∧
    (nextField (exec .run decoding) (fun t => t.out.length)).isSome = true := by
  decide +kernel

/-- ReassembleRoundTrip: both ends of the 20-bit range. -/
theorem test_witness_twenty_bits :
    (-524288 ≤ (0xFFF80000#32).toInt ∧ (0xFFF80000#32).toInt ≤ 524287) ∧
    (-524288 ≤ (0x0007FFFF#32).toInt ∧ (0x0007FFFF#32).toInt ≤ 524287) := by decide +kernel

/-- DecodedValuesInRange: a record with ACC_BAD. -/
theorem test_witness_accBad : (decodedFlags r5).accBad = true := by decide +kernel

/-- TimestampFormula: the oldest record of the largest batch, and K = 1. -/
theorem test_witness_timestamp :
    0 < 32 ∧ (32 - 1 - 0) * 1000 ≤ (31000#64).toNat ∧ Cfg.default.WellFormed ∧ 32 ≤ Cfg.default.maxBatch ∧ 1 ≤ 1 := by
  decide +kernel

/-- ScalingIsExact, PathsAgreeUnderScaleRatios. -/
theorem test_witness_scaling :
    scaledCfg.scaling = some scaled ∧ scaled.tempSensitivity ≠ 0 ∧ scaled.accelCoarse = 4 * scaled.accelFine ∧
    scaled.gyroCoarse = 8 * scaled.gyroFine := by decide +kernel

/-- LegalityTable: an operation the table refuses, an ARM it accepts with K out of range, and operations it accepts. -/
theorem test_witness_legality :
    accepted .dec State.reset.phase State.reset.flushReq = false ∧
    accepted (.arm 1 33) State.reset.phase State.reset.flushReq = true ∧ ¬ operandsOk State.reset.cfg (.arm 1 33) ∧
    accepted (.arm 1 32) State.reset.phase State.reset.flushReq = true ∧ operandsOk State.reset.cfg (.arm 1 32) ∧
    accepted .rst decoding.phase decoding.flushReq = true ∧ operandsOk decoding.cfg .rst := by
  refine ⟨by decide, by decide, ?_, by decide, ?_, by decide +kernel, trivial⟩
  · rintro ⟨-, h⟩
    exact absurd h (by decide)
  · exact ⟨by decide, by decide⟩

/-- ErrorBitsAreSticky: an operation that completes while a bit is set (V-Q15). -/
theorem test_witness_sticky :
    Instr.xfd true ≠ .rst ∧
    nextField (exec (.xfd true) { armed with err := ⟨true, false, false⟩ }) (fun t => (t.err, t.phase)) =
      some (⟨true, false, false⟩, .decoding) := by decide +kernel

/-- EveryElementIsOnAStatusPort: two states whose ports show the same (a move still to come is on no port), and the last address. -/
theorem test_witness_ports :
    (∀ p : StatusPort, (facing [.powerOn] armed).statusPort p = armed.statusPort p) ∧ facing [.powerOn] armed ≠ armed ∧
    2047 < armed.cfg.fifoCapacity := by
  refine ⟨fun p => ?_, by decide +kernel, by decide⟩
  cases p with
  | register q => cases q <;> rfl
  | rxbuf => rfl
  | out => rfl

/-- StatusAndFlagBits: the first index with no result register. -/
theorem test_witness_res : 6 ≤ 6 ∧ armed.res 6 = none := ⟨le_refl 6, rfl⟩

/-- CounterSaturates: the last value below the top, and the top (V-K3). -/
theorem test_witness_saturation :
    (4294967294#32).toNat < 4294967295 ∧ (4294967295#32).toNat = 4294967295 := by decide +kernel

/-- OutputIsAppendOnly: a move that is not power-on and a bundle that is neither DEC nor RUN. -/
theorem test_witness_output :
    (∀ rest, (State.reset.withFetchWord 88 0x080012).script ≠ .powerOn :: rest) ∧
    (∀ rest, (State.reset.withFetchWord 88 0x080012).script ≠ .hardReset :: rest) ∧
    decode 0x080012#88 ≠ .ok .dec ∧ decode 0x080012#88 ≠ .ok .run ∧ decode 0x080012#88 ≠ .ok .rst := by
  refine ⟨?_, ?_, by decide +kernel, by decide +kernel, by decide +kernel⟩ <;> intro rest h <;> cases h

/-- RegisterTable: an operation that is none of those the table names, and one that is. -/
theorem test_witness_table :
    exec .nop decoding = .next decoding ∧ (¬ ∃ f c, Instr.nop = .cnt f c) ∧ (¬ ∃ tm k, Instr.nop = .arm tm k) ∧
    (¬ ∃ f, Instr.nop = .xfd f) ∧ Instr.nop ≠ .rst ∧ Instr.nop ≠ .dec ∧ Instr.nop ≠ .run ∧ Instr.nop ≠ .fla := by
  refine ⟨rfl, ?_, ?_, ?_, by decide, by decide, by decide, by decide⟩
  · rintro ⟨f, c, h⟩
    cases h
  · rintro ⟨tm, k, h⟩
    cases h
  · rintro ⟨f, h⟩
    cases h

/-- ResetMeetsInvariants, StepKeepsSequencing, StepKeepsRxbufForm, StepKeepsResultRange, StepKeepsEmittedSamples,
StepKeepsCountRegisters: a state in the middle of a drain that meets every invariant and from which the step answers a next state. -/
theorem test_witness_invariants :
    Cfg.default.WellFormed ∧ SeqInv (facing [.issue 0x06#88] decoding) ∧ RxInv (facing [.issue 0x06#88] decoding) ∧
    ResultInv (facing [.issue 0x06#88] decoding) ∧ OutInv (facing [.issue 0x06#88] decoding) ∧
    CountInv (facing [.issue 0x06#88] decoding) ∧
    (nextField (step (facing [.issue 0x06#88] decoding)) (fun t => t.out.length)) = some 1 := by
  refine ⟨by decide, by constructor <;> decide +kernel,
    ⟨by decide +kernel, by decide +kernel, by decide +kernel, ?_, by decide +kernel, by decide +kernel, by decide +kernel,
      by decide +kernel⟩,
    by constructor <;> decide +kernel, ?_, by decide +kernel, by decide +kernel⟩
  · have h : ∀ a ∈ (facing [.issue 0x06#88] decoding).rxWin,
        (memRead (facing [.issue 0x06#88] decoding).rxbuf a).isSome = true := by decide +kernel
    exact fun a ha => Option.isSome_iff_exists.mp (h a ha)
  · intro r hr
    cases hr

end Sys2Proof.Tests
end

section
/-! SUPPORT. Proofs of the statements about the state: the register table (spec 10_state R31), the bit views of STATUS, SFLAGS and ERR
(R24 to R26), and the saturating increment (R27). -/

namespace Sys2Proof.Machine

/-! The register table. -/

/-- Every numbered register reads 0 at reset. -/
theorem port_reset (p : Port) : State.reset.port p = 0 := by
  cases p <;> rfl

/-- The elements that neither DEC nor RUN is named as a writer of in R31 are the same in both states. -/
structure SameOutsideDecode (s t : State) : Prop where
  rxbuf : t.rxbuf = s.rxbuf
  byteCount : t.byteCount = s.byteCount
  samples : t.samples = s.samples
  countClass : t.countClass = s.countClass
  fifoEmptyCnt : t.fifoEmptyCnt = s.fifoEmptyCnt
  fifoOverflowCnt : t.fifoOverflowCnt = s.fifoOverflowCnt
  xferLen : t.xferLen = s.xferLen
  kLat : t.kLat = s.kLat
  tLat : t.tLat = s.tLat
  fifoResetCnt : t.fifoResetCnt = s.fifoResetCnt
  badXferCnt : t.badXferCnt = s.badXferCnt

theorem SameOutsideDecode.refl (s : State) : SameOutsideDecode s s := by
  constructor <;> rfl

theorem SameOutsideDecode.recordState {s t : State} (h : SameOutsideDecode s t) (i : Nat) :
    SameOutsideDecode s (recordState i t) := by
  cases h
  constructor <;> simp [*]

/-- RUN writes what DEC writes and nothing else: its loop keeps what the decode of one record keeps. -/
theorem runLoop_sameOutsideDecode {n : Nat} {s t : State} (h : runLoop n s = .next t) : SameOutsideDecode s t :=
  runLoop_keeps (fun _ i hs _ _ _ => hs.recordState i) (.refl s) h

/-- Settles O43: the table and the reset values are read off; for "written by", each operation's possible effects are taken one by
one, and what the loop of RUN leaves unchanged is `runLoop_sameOutsideDecode`. -/
theorem registerTable : Obligations.RegisterTable := by
  refine ⟨rfl, port_reset, rfl, ?_⟩
  intro i s t h
  cases i with
  | nop => cases h; simp
  | rst => cases h; simp
  | cnt f c => rcases execCnt_eq_next h with ⟨-, rfl⟩ | ⟨-, rfl⟩ <;> simp
  | fla => rcases execFla_eq_next h with ⟨-, rfl⟩ | ⟨-, rfl⟩ <;> simp
  | arm tm k => rcases execArm_eq_next h with ⟨-, -, -, -, rfl⟩ | ⟨-, -, -, rfl⟩ | ⟨-, rfl⟩ <;> simp
  | xfd f => rcases execXfd_eq_next h with ⟨-, -, rfl⟩ | ⟨-, -, rfl⟩ | ⟨-, rfl⟩ <;> simp
  | dec => rcases execDec_eq_next h with ⟨-, j, -, -, rfl⟩ | ⟨-, rfl⟩ <;> simp
  | run =>
    rcases execRun_eq_next h with ⟨-, hloop⟩ | ⟨-, rfl⟩
    · cases runLoop_sameOutsideDecode hloop
      simp [*]
    · simp

/-! The bit views. -/

/-- STATUS shows PHASE in bits 1:0, the three level outputs in bits 2 to 4 and CLASS in bits 7:5 (R26): a finite check over the
values of the five elements. -/
theorem status_bits (s : State) :
    s.status.extractLsb' 0 2 = s.phase.code ∧ s.status.getLsbD 2 = s.flushReq ∧ s.status.getLsbD 3 = s.done ∧
      s.status.getLsbD 4 = s.drainErr ∧ s.status.extractLsb' 5 3 = s.countClass.code := by
  unfold State.status
  generalize s.phase = phase, s.countClass = cls, s.flushReq = flush, s.done = done, s.drainErr = drainErr
  revert flush done drainErr
  cases phase <;> cases cls <;> decide

/-- SFLAGS shows its five flags in the order of R24. -/
theorem sampleFlags_getLsbD (f : SampleFlags) :
    f.bits.getLsbD 0 = f.valid ∧ f.bits.getLsbD 1 = f.accBad ∧ f.bits.getLsbD 2 = f.tempBad ∧
      f.bits.getLsbD 3 = f.coarseA ∧ f.bits.getLsbD 4 = f.coarseG := by
  obtain ⟨valid, accBad, tempBad, coarseA, coarseG⟩ := f
  revert valid accBad tempBad coarseA coarseG
  decide

/-- ERR shows its three flags in the order of R25. -/
theorem errFlags_getLsbD (e : ErrFlags) :
    e.bits.getLsbD 0 = e.illegal ∧ e.bits.getLsbD 1 = e.seq ∧ e.bits.getLsbD 2 = e.arg := by
  obtain ⟨illegal, seq, arg⟩ := e
  revert illegal seq arg
  decide

/-- There is no result register above 5 (R22). -/
theorem res_eq_none (s : State) {n : Nat} (h : 6 ≤ n) : s.res n = none := by
  obtain ⟨m, rfl⟩ := Nat.exists_eq_add_of_le' h
  rfl

/-- Settles O41: the three views are `status_bits`, `sampleFlags_getLsbD` and `errFlags_getLsbD`; the codes of PHASE and CLASS are
the values R14 and R19 give. -/
theorem statusAndFlagBits : Obligations.StatusAndFlagBits := by
  refine ⟨fun s => ?_, sampleFlags_getLsbD, errFlags_getLsbD,
    fun s => ⟨rfl, rfl, rfl, rfl, rfl, rfl, fun _ hn => res_eq_none s hn⟩, fun _ => ⟨rfl, rfl, rfl⟩⟩
  obtain ⟨hphase, hflush, hdone, hdrainErr, hclass⟩ := status_bits s
  refine ⟨hphase.trans ?_, hflush, hdone, hdrainErr, hclass.trans ?_⟩
  · cases s.phase <;> rfl
  · cases s.countClass <;> rfl

/-! The saturating increment. -/

theorem satInc_toNat_of_lt {c : W32} (h : c.toNat < 4294967295) : (satInc c).toNat = c.toNat + 1 := by
  rw [satInc_eq_min]
  omega

theorem satInc_of_top {c : W32} (h : c.toNat = 4294967295) : satInc c = c := by
  apply BitVec.eq_of_toNat_eq
  rw [satInc_eq_min]
  omega

/-- Settles O42: the increment is a minimum (`satInc_eq_min`), on each side of the boundary. -/
theorem counterSaturates : Obligations.CounterSaturates :=
  fun _ => ⟨satInc_toNat_of_lt, satInc_of_top⟩

end Sys2Proof.Machine
end

section
/-! SUPPORT. Proofs of the statements about the encoding: the opcode map over the fields of a bundle (spec 30_encoding R53 to R56), the
ten legal command words (R57, 60_exceptions R104), the bytes of a record (R59, R62) and the pseudo-operations (R68). -/

namespace Sys2Proof

/-! The fields of the command word, read from the bundle. -/

theorem cmdRsv_cmd (b : Bundle) : cmdRsv (Bundle.cmd b) = b.extractLsb' 5 3 :=
  BitVec.extractLsb'_extractLsb'_of_le (by decide)

theorem cmdF_cmd (b : Bundle) : cmdF (Bundle.cmd b) = b.getLsbD 4 := by
  simp [cmdF, Bundle.cmd]

theorem cmdOpc_cmd (b : Bundle) : cmdOpc (Bundle.cmd b) = b.extractLsb' 0 4 :=
  BitVec.extractLsb'_extractLsb'_of_le (by decide)

/-! The opcode map. -/

/-- With reserved bits zero a bundle decodes as its opcode says. -/
theorem decode_of_rsv_zero {b : Bundle} (h : b.extractLsb' 5 3 = 0) :
    decode b = decodeOpc (b.extractLsb' 0 4) (b.getLsbD 4) (Bundle.opA b) (Bundle.opB b) := by
  rw [decode, cmdRsv_cmd, if_pos h, cmdOpc_cmd, cmdF_cmd]

theorem decode_of_rsv_ne_zero {b : Bundle} (h : b.extractLsb' 5 3 ≠ 0) : decode b = .error .reservedBits := by
  rw [decode, cmdRsv_cmd, if_neg h]

/-- The upper half of the opcodes is reserved (R56). -/
theorem decodeOpc_of_le {opc : BitVec 4} (h : 8 ≤ opc.toNat) (f : Bool) (a : W64) (k : W16) :
    decodeOpc opc f a k = .error .reservedOpcode := by
  unfold decodeOpc
  split
  case h_9 => rfl
  all_goals omega

/-- `f` = 1 is an error for every opcode but those of CNT and XFD (R54). -/
theorem decodeOpc_flag_error {opc : BitVec 4} (hcnt : opc ≠ 0x2) (hxfd : opc ≠ 0x5) (a : W64) (k : W16) :
    ∃ e, decodeOpc opc true a k = .error e := by
  unfold decodeOpc
  split
  case h_3 h => exact absurd (BitVec.eq_of_toNat_eq h) hcnt
  case h_6 h => exact absurd (BitVec.eq_of_toNat_eq h) hxfd
  all_goals exact ⟨_, rfl⟩

/-- The three ways to spell no operation: a reserved bit, a reserved opcode, `f` = 1 where it is not used (R54, R56). -/
theorem decode_error_of_fields {b : Bundle}
    (h : b.extractLsb' 5 3 ≠ 0 ∨ 8 ≤ (b.extractLsb' 0 4).toNat ∨
      (b.getLsbD 4 = true ∧ b.extractLsb' 0 4 ≠ 0x2 ∧ b.extractLsb' 0 4 ≠ 0x5)) :
    ∃ e, decode b = .error e := by
  by_cases hrsv : b.extractLsb' 5 3 = 0
  · rw [decode_of_rsv_zero hrsv]
    rcases h with hne | hopc | ⟨hf, hcnt, hxfd⟩
    · exact absurd hrsv hne
    · exact ⟨_, decodeOpc_of_le hopc _ _ _⟩
    · rw [hf]
      exact decodeOpc_flag_error hcnt hxfd _ _
  · exact ⟨_, decode_of_rsv_ne_zero hrsv⟩

/-- Settles O3: with reserved bits zero the decoder is the opcode map (`decode_of_rsv_zero`), read at each opcode; the words that
spell no operation are `decode_error_of_fields`. -/
theorem opcodeMapReadsFields : Obligations.OpcodeMapReadsFields := by
  intro b opA opB rsv f opc
  have hmap {o : BitVec 4} (hrsv : rsv = 0) (hopc : opc = o) : decode b = decodeOpc o f opA opB :=
    hopc ▸ decode_of_rsv_zero hrsv
  have hmapNoF {o : BitVec 4} (hrsv : rsv = 0) (hf : f = false) (hopc : opc = o) :
      decode b = decodeOpc o false opA opB :=
    hf ▸ hmap hrsv hopc
  exact ⟨hmapNoF, hmapNoF, hmap, hmapNoF, hmapNoF, hmap, hmapNoF, hmapNoF, decode_error_of_fields⟩

/-! The legal command words. -/

/-- A command word outside R57's list has a reserved bit set, a reserved opcode, or `f` = 1 where it is not used: a check of the 256
words. -/
theorem fields_of_not_mem_legalWords : ∀ c : Byte, c ∉ legalWords →
    cmdRsv c ≠ 0 ∨ 8 ≤ (cmdOpc c).toNat ∨ (cmdF c = true ∧ cmdOpc c ≠ 0x2 ∧ cmdOpc c ≠ 0x5) := by
  decide

/-- A bundle with one of the ten words decodes to that word's operation. -/
theorem decode_ok_of_mem_legalWords {b : Bundle} (h : Bundle.cmd b ∈ legalWords) : ∃ i, decode b = .ok i := by
  rw [← bundleOf_fields b]
  generalize Bundle.opA b = a, Bundle.opB b = k, Bundle.cmd b = c at h ⊢
  simp only [legalWords, List.mem_cons, List.not_mem_nil, or_false] at h
  rcases h with rfl | rfl | rfl | rfl | rfl | rfl | rfl | rfl | rfl | rfl
  · exact ⟨_, decode_word_nop a k⟩
  · exact ⟨_, decode_word_rst a k⟩
  · exact ⟨_, decode_word_cntFail a k⟩
  · exact ⟨_, decode_word_cntOk a k⟩
  · exact ⟨_, decode_word_fla a k⟩
  · exact ⟨_, decode_word_arm a k⟩
  · exact ⟨_, decode_word_xfdFail a k⟩
  · exact ⟨_, decode_word_xfdOk a k⟩
  · exact ⟨_, decode_word_dec a k⟩
  · exact ⟨_, decode_word_run a k⟩

/-- A bundle with any other word decodes to no operation: the illegal case of the opcode map. -/
theorem decode_error_of_not_mem_legalWords {b : Bundle} (h : Bundle.cmd b ∉ legalWords) : ∃ e, decode b = .error e := by
  have hfields := fields_of_not_mem_legalWords _ h
  rw [cmdRsv_cmd, cmdOpc_cmd, cmdF_cmd] at hfields
  exact decode_error_of_fields hfields

end Sys2Proof

namespace Sys2Proof.Machine

/-- Settles O5: the ten words are `decode_ok_of_mem_legalWords`; any other word is an error of the decoder, which `issueBundle`
answers with ILLEGAL alone. -/
theorem illegalWordOnlySetsIllegal : Obligations.IllegalWordOnlySetsIllegal := by
  intro s b legal
  refine ⟨decode_ok_of_mem_legalWords, fun h => ?_⟩
  obtain ⟨e, he⟩ := decode_error_of_not_mem_legalWords h
  exact ⟨⟨e, he⟩, issueBundle_error he s⟩

/-! The pseudo-operations. -/

/-- Settles O46: the count word is the two bytes side by side, high byte first as in `temp16`; DRAIN is read off for each report. -/
theorem pseudoOperationsExpand : Obligations.PseudoOperationsExpand :=
  ⟨fun b0 b1 _ => ⟨b0 ++ b1, temp16_toNat b0 b1, rfl⟩, fun _ _ => ⟨rfl, rfl⟩⟩

/-! The bytes of a record. -/

/-- Settles O53: every read goes through `recordBase` plus the field's own offset (R40), and the three axes share one function of their
five offsets (`axisBytes`) and one per sensor of their five bytes, so each equation is read off axis by axis. -/
theorem recordFieldsComeFromTheirOffsets : Obligations.RecordFieldsComeFromTheirOffsets := by
  intro s i
  refine ⟨?bytesX, ?bytesY, ?bytesZ, ?temperatureBytes, ?accelFields, ?gyroFields, ?temperature⟩
  case bytesX | bytesY | bytesZ => exact ⟨rfl, rfl, rfl, rfl, rfl⟩
  case temperatureBytes => exact ⟨rfl, rfl⟩
  case accelFields | gyroFields => exact ⟨rfl, rfl, rfl⟩
  case temperature => rfl

end Sys2Proof.Machine
end

section
/-! SUPPORT. Proofs of the statements about the datapath: the 20-bit and 16-bit fields as integers (spec 40_datapath R69, R70, R72), the
sentinels (R73, R74), the shifts (R76), the coarse flags (R77), the timestamp (R83, R84) and the scaling stage (R85). -/

namespace Sys2Proof.Machine

/-! The packed fields. -/

/-- The parts of a packed field are a number of twenty bits (R61). -/
theorem packedParts_lt (h m : Byte) (n : Nibble) : h.toNat * 4096 + m.toNat * 16 + n.toNat < 2 ^ 20 := by
  have := h.isLt
  have := m.isLt
  have := n.isLt
  omega

/-- The 32-bit pattern of a packed field (R69): the top twelve bits are above the twenty bits of the parts, so OR-ing them in adds them. -/
theorem reassemble20_toNat (h m : Byte) (n : Nibble) :
    (reassemble20 h m n).toNat =
      if 524288 ≤ h.toNat * 4096 + m.toNat * 16 + n.toNat then 4293918720 + (h.toNat * 4096 + m.toNat * 16 + n.toNat)
      else h.toNat * 4096 + m.toNat * 16 + n.toNat := by
  have hparts := packedParts_toNat h m n
  have hlt := packedParts_lt h m n
  unfold reassemble20
  simp only [signBit19 _ (hparts ▸ hlt), hparts, decide_eq_true_eq]
  split
  · rw [BitVec.toNat_or, hparts]
    exact (Nat.shiftLeft_add_eq_or_of_lt hlt 0xFFF).symm
  · exact hparts

/-- A packed field is the sign-extended number of its twenty bits (R69). -/
theorem reassemble20_toInt (h m : Byte) (n : Nibble) : (reassemble20 h m n).toInt = refField20 h m n.toNat := by
  have := packedParts_lt h m n
  rw [BitVec.toInt_eq_toNat_cond, reassemble20_toNat, refField20, sextInt]
  split <;> split <;> omega

theorem reassemble20_range (h m : Byte) (n : Nibble) :
    -524288 ≤ (reassemble20 h m n).toInt ∧ (reassemble20 h m n).toInt ≤ 524287 := by
  have := packedParts_lt h m n
  rw [reassemble20_toInt, refField20, sextInt]
  split <;> omega

/-- Settles O28: the value is `reassemble20_toInt`, read as the sum of the parts; the corner cases are evaluated. -/
theorem reassembleSignExtends : Obligations.ReassembleSignExtends := by
  refine ⟨fun h m n => ?_, reassemble20_range, by decide, by decide, by decide, by decide, by decide⟩
  rw [reassemble20_toInt]
  rfl

/-- The sign extension lies above bit 19: below it a packed field is its parts. -/
theorem reassemble20_toNat_mod (h m : Byte) (n : Nibble) :
    (reassemble20 h m n).toNat % 2 ^ 20 = h.toNat * 4096 + m.toNat * 16 + n.toNat := by
  have := packedParts_lt h m n
  rw [reassemble20_toNat]
  split <;> omega

/-- So packing a packed field gives its parts back (R70). -/
theorem pack20_reassemble20 (h m : Byte) (n : Nibble) : pack20 (reassemble20 h m n) = (h, m, n) := by
  have hlow := reassemble20_toNat_mod h m n
  have := m.isLt
  have := n.isLt
  have hhigh : (reassemble20 h m n).extractLsb' 12 8 = h := BitVec.eq_of_toNat_eq <| by
    rw [BitVec.extractLsb'_toNat, Nat.shiftRight_eq_div_pow]
    omega
  have hmid : (reassemble20 h m n).extractLsb' 4 8 = m := BitVec.eq_of_toNat_eq <| by
    rw [BitVec.extractLsb'_toNat, Nat.shiftRight_eq_div_pow]
    omega
  have hnibble : (reassemble20 h m n).extractLsb' 0 4 = n := BitVec.eq_of_toNat_eq <| by
    rw [BitVec.extractLsb'_toNat, Nat.shiftRight_zero]
    omega
  rw [pack20, hhigh, hmid, hnibble]

/-- A number of the 20-bit range is the packed field of its own parts (R70): both are the same number below bit 20, and the sign of either
is bit 19. -/
theorem reassemble20_extract {v : W32} (hlo : -524288 ≤ v.toInt) (hhi : v.toInt ≤ 524287) :
    reassemble20 (v.extractLsb' 12 8) (v.extractLsb' 4 8) (v.extractLsb' 0 4) = v := by
  have := v.isLt
  apply BitVec.eq_of_toNat_eq
  rw [BitVec.toInt_eq_toNat_cond] at hlo hhi
  rw [reassemble20_toNat]
  simp only [BitVec.extractLsb'_toNat, Nat.shiftRight_eq_div_pow]
  split at hlo <;> split <;> omega

/-- Settles O29: `reassemble20_extract` is one direction and `pack20_reassemble20` the other. -/
theorem reassembleRoundTrip : Obligations.ReassembleRoundTrip :=
  ⟨fun _ => reassemble20_extract, pack20_reassemble20⟩

/-! The temperature. -/

/-- The temperature is the sign-extended number of its two bytes, high byte first (R72). -/
theorem temp16_toInt (h m : Byte) : (temp16 h m).toInt = refField16 h m := by
  have := h.isLt
  have := m.isLt
  rw [BitVec.toInt_eq_toNat_cond, temp16_toNat, refField16, sextInt]
  split <;> split <;> omega

/-- Settles O30: the value is `temp16_toInt`, read as the sum of the two bytes; the corner cases are evaluated. -/
theorem tempFieldSignExtends : Obligations.TempFieldSignExtends := by
  refine ⟨fun h m => ?_, by decide, by decide, by decide, by decide⟩
  rw [temp16_toInt]
  rfl

/-! The sentinels. -/

/-- ACC_BAD by value (R73). -/
theorem accBad_eq_true (a20 : Axes W32) :
    accBad a20 = true ↔ a20.x = sentinel20 ∨ a20.y = sentinel20 ∨ a20.z = sentinel20 := by
  simp only [accBad, any_eq_true, beq_iff_eq]

theorem tempBad_eq_true (t16 : W16) : tempBad t16 = true ↔ t16 = sentinel16 := by
  simp only [tempBad, beq_iff_eq]

/-- A record is valid where neither sentinel is met (R75). -/
theorem sampleFlags_valid_eq_true (a20 a18 g19 : Axes W32) (t16 : W16) :
    (sampleFlags a20 a18 g19 t16).valid = true ↔ accBad a20 = false ∧ tempBad t16 = false := by
  simp [sampleFlags]

theorem eq_sentinel20_iff (v : W32) : v = sentinel20 ↔ v.toInt = -524288 :=
  BitVec.toInt_inj.symm

theorem eq_sentinel16_iff (v : W16) : v = sentinel16 ↔ v.toInt = -32768 :=
  BitVec.toInt_inj.symm

/-- The sentinel's bytes (R73): packing is injective, so no other parts give it. -/
theorem reassemble20_eq_sentinel20_iff (h m : Byte) (n : Nibble) :
    reassemble20 h m n = sentinel20 ↔ h = 0x80 ∧ m = 0x00 ∧ n = 0 := by
  constructor
  · intro hs
    have hparts : (h, m, n) = pack20 sentinel20 := by rw [← hs, pack20_reassemble20]
    simpa [pack20, sentinel20] using hparts
  · rintro ⟨rfl, rfl, rfl⟩
    rfl

/-- The temperature sentinel's bytes (R74). -/
theorem temp16_eq_sentinel16_iff (h m : Byte) : temp16 h m = sentinel16 ↔ h = 0x80 ∧ m = 0x00 := by
  constructor
  · intro hs
    have := m.isLt
    have hsum : h.toNat * 256 + m.toNat = 32768 := by rw [← temp16_toNat, hs]; rfl
    exact ⟨BitVec.eq_of_toNat_eq (show h.toNat = 128 by omega), BitVec.eq_of_toNat_eq (show m.toNat = 0 by omega)⟩
  · rintro ⟨rfl, rfl⟩
    rfl

/-- Settles O31: each flag is an equation with its sentinel (`accBad_eq_true`, `tempBad_eq_true`), which is read once as an integer and
once as the bytes it is packed from. -/
theorem sentinelsByBytes : Obligations.SentinelsByBytes := by
  intro accelHigh r sentinelAxis fl a20
  have hacc : fl.accBad = true ↔ a20.x = sentinel20 ∨ a20.y = sentinel20 ∨ a20.z = sentinel20 := accBad_eq_true a20
  have htemp : fl.tempBad = true ↔ temp16 r.tH r.tL = sentinel16 := tempBad_eq_true _
  have hbytes (q : AxisBytes) :
      reassemble20 q.accH q.accM (accNibble accelHigh q.ext) = sentinel20 ↔ sentinelAxis q :=
    reassemble20_eq_sentinel20_iff _ _ _
  refine ⟨?accValue, ?tempValue, ?accBytes, ?tempBytes, ?valid⟩
  case accValue => simpa only [eq_sentinel20_iff] using hacc
  case tempValue => exact htemp.trans (eq_sentinel16_iff _)
  case accBytes => exact hacc.trans (or_congr (hbytes _) (or_congr (hbytes _) (hbytes _)))
  case tempBytes => exact htemp.trans (temp16_eq_sentinel16_iff _ _)
  case valid => exact sampleFlags_valid_eq_true _ _ _ _

/-! The shifts and the coarse flags. -/

/-- Settles O32: each shift is `asr_toInt`, and the ranges are those of the 20-bit field (`reassemble20_range`) divided. -/
theorem shiftsAreFloorDivision : Obligations.ShiftsAreFloorDivision := by
  refine ⟨fun v => ⟨asr_toInt 2 _, asr_toInt 2 _, asr_toInt 2 _, asr_toInt 1 _, asr_toInt 1 _, asr_toInt 1 _⟩,
    fun h m n => ?_⟩
  have hrange := reassemble20_range h m n
  simp only [asr_toInt]
  omega

/-- A value shifted by `n` overflows 16 bits exactly where the value itself is outside 2^n times the 16-bit range (R77). -/
theorem ovf16_asr (n : Nat) (v : W32) :
    ovf16 (asr n v) = true ↔ v.toInt < -32768 * 2 ^ n ∨ 32768 * 2 ^ n ≤ v.toInt := by
  have hpos : (0 : Int) < 2 ^ n := by positivity
  rw [ovf16_eq_true, asr_toInt]
  exact or_congr (Int.ediv_lt_iff_lt_mul hpos) (Int.le_ediv_iff_mul_le hpos)

/-- Settles O33: a coarse flag is `ovf16` of some shifted axis, and `ovf16_asr` reads that as a range of the value before the shift. -/
theorem coarseFlagsFromTwentyBitValues : Obligations.CoarseFlagsFromTwentyBitValues := by
  refine ⟨ovf16_eq_true, ?_⟩
  intro accelHigh r a20 g20 aOut gOut fl
  have hA : fl.coarseA = true ↔ ovf16 (asr 2 a20.x) = true ∨ ovf16 (asr 2 a20.y) = true ∨ ovf16 (asr 2 a20.z) = true :=
    any_eq_true ovf16 (accel18 a20)
  have hG : fl.coarseG = true ↔ ovf16 (asr 1 g20.x) = true ∨ ovf16 (asr 1 g20.y) = true ∨ ovf16 (asr 1 g20.z) = true :=
    any_eq_true ovf16 (gyro19 g20)
  have haOut (v : W32) : ovf16 (asr 2 v) = true ↔ aOut v := by
    rw [ovf16_asr]
    omega
  have hgOut (v : W32) : ovf16 (asr 1 v) = true ↔ gOut v := by
    rw [ovf16_asr]
    omega
  exact ⟨hA, hG, hA.trans (or_congr (haOut _) (or_congr (haOut _) (haOut _))),
    hG.trans (or_congr (hgOut _) (or_congr (hgOut _) (hgOut _)))⟩

/-! The timestamp. -/

/-- The timestamp of a record of the batch, with the record's age counted in naturals (R83). -/
theorem recordTs_toNat_cast (t : W64) {k i : Nat} (p : Nat) (h : i < k) :
    ((recordTs t k i p).toNat : Int) = ((t.toNat : Int) - ((k - 1 - i) * p : Nat)) % 2 ^ 64 := by
  have hage : ((k - 1 - i : Nat) : Int) = (k : Int) - 1 - i := by omega
  have hmod : (0 : Int) ≤ ((t.toNat : Int) - ((k : Int) - 1 - i) * p) % (2 ^ 64 : Nat) := Int.emod_nonneg _ (by decide)
  rw [recordTs, BitVec.toNat_ofInt, Int.toNat_of_nonneg hmod, Nat.cast_mul, hage]
  rfl

/-- Where the batch began after time 0 the timestamp does not wrap (R84). -/
theorem recordTs_toNat_of_le (t : W64) {k i p : Nat} (h : i < k) (hle : (k - 1 - i) * p ≤ t.toNat) :
    (recordTs t k i p).toNat = t.toNat - (k - 1 - i) * p := by
  have hts := recordTs_toNat_cast t p h
  have := t.isLt
  generalize (k - 1 - i) * p = age at hle hts ⊢
  omega

/-- The newest record carries the time of the request itself (R83). -/
theorem recordTs_newest (t : W64) {k : Nat} (p : Nat) (h : 1 ≤ k) : recordTs t k (k - 1) p = t := by
  have hage : (k - 1 - (k - 1)) * p = 0 := by simp
  apply BitVec.eq_of_toNat_eq
  rw [recordTs_toNat_of_le t (by omega) (by omega), hage, Nat.sub_zero]

/-- The age of a record is below 2^48 microseconds: a batch has at most 65535 records and the period has 32 bits (R10, R84). -/
theorem recordAge_lt {c : Cfg} {k : Nat} (i : Nat) (hc : c.WellFormed) (hk : k ≤ c.maxBatch) :
    (k - 1 - i) * c.samplePeriodUs < 65535 * 2 ^ 32 := by
  obtain ⟨⟨-, -, -, hperiod⟩, -, -, -, -, hbatch, -⟩ := hc
  exact Nat.mul_lt_mul_of_le_of_lt (by omega) hperiod (by decide)

/-- Settles O36: the formula is `recordTs_toNat_cast`, without wrap `recordTs_toNat_of_le`, for the newest record `recordTs_newest`; the
bound is `recordAge_lt`, and the worked examples are evaluated. -/
theorem timestampFormula : Obligations.TimestampFormula :=
  ⟨fun t _ _ p h => recordTs_toNat_cast t p h, fun t _ p h => recordTs_newest t p h,
    fun t _ _ _ h hle => recordTs_toNat_of_le t h hle, fun _ _ i hc hk => recordAge_lt i hc hk, by decide,
    by decide, by decide, by decide, by decide⟩

/-! The scaling stage. -/

/-- With a sensitivity other than 0 the stage answers `physicalSample` (R85). -/
theorem scaleSample_eq_some {c : Cfg} {k : Scaling} (r : OutSample) (hk : c.scaling = some k) (h : k.tempSensitivity ≠ 0) :
    scaleSample c r = some (physicalSample k r) := by
  simp [scaleSample, hk, h]

/-- Settles O37: the stage answers `physicalSample` (`scaleSample_eq_some`), whose three parts are the formulas of R85. -/
theorem scalingIsExact : Obligations.ScalingIsExact :=
  ⟨fun _ => rfl, fun _ k r hk h => ⟨physicalSample k r, scaleSample_eq_some r hk h, rfl, rfl, rfl⟩⟩

end Sys2Proof.Machine
end

section
/-! SUPPORT. Proofs of the statements about the count operations: CNT with its classification (spec 41_count_ops R87 to R89) and FLA
(R92). -/

namespace Sys2Proof

/-- The decoder of a bundle whose command word is known: the operands are the bundle's own. -/
theorem decode_of_cmd_eq {b : Bundle} {c : Byte} (h : Bundle.cmd b = c) :
    decode b = decode (bundleOf (Bundle.opA b) (Bundle.opB b) c) := by
  rw [← h, bundleOf_fields]

end Sys2Proof

namespace Sys2Proof.Machine

/-! The classification, one equation per class (R89). -/

section classify
variable {c : Cfg} {bc : W16}

theorem classify_of_overBytes (h : c.fifoCapacity ≤ bc.toNat) : classify c bc = ⟨.ovfBytes, 0, true⟩ := if_pos h

theorem classify_of_empty (hlt : bc.toNat < c.fifoCapacity) (hzero : bc.toNat / c.recordSize = 0) :
    classify c bc = ⟨.empty, 0, false⟩ := by
  rw [classify, if_neg (by omega), if_pos hzero]

theorem classify_of_overBatch (hlt : bc.toNat < c.fifoCapacity) (hne : bc.toNat / c.recordSize ≠ 0)
    (hover : c.maxBatch < bc.toNat / c.recordSize) : classify c bc = ⟨.ovfBatch, 0, true⟩ := by
  rw [classify, if_neg (by omega), if_neg hne, if_pos hover]

theorem classify_of_ok (hlt : bc.toNat < c.fifoCapacity) (hne : bc.toNat / c.recordSize ≠ 0)
    (hle : bc.toNat / c.recordSize ≤ c.maxBatch) :
    classify c bc = ⟨.ok, BitVec.ofNat 16 (bc.toNat / c.recordSize), false⟩ := by
  rw [classify, if_neg (by omega), if_neg hne, if_neg (by omega)]

end classify

/-- The event that FIFO_EMPTY_CNT counts (R87). -/
theorem classify_empty_iff (c : Cfg) (bc : W16) :
    ((classify c bc).cls == .empty) = true ↔ bc.toNat < c.fifoCapacity ∧ bc.toNat / c.recordSize = 0 := by
  unfold classify
  generalize bc.toNat / c.recordSize = n
  split_ifs
  all_goals
    simp
    omega

/-- The events that FIFO_OVERFLOW_CNT counts (R87). -/
theorem classify_overflow_iff (c : Cfg) (bc : W16) :
    ((classify c bc).cls == .ovfBytes || (classify c bc).cls == .ovfBatch) = true ↔
      c.fifoCapacity ≤ bc.toNat ∨
        (bc.toNat < c.fifoCapacity ∧ bc.toNat / c.recordSize ≠ 0 ∧ c.maxBatch < bc.toNat / c.recordSize) := by
  unfold classify
  generalize bc.toNat / c.recordSize = n
  split_ifs
  all_goals
    simp
    omega

/-- A number of records in a 16-bit byte count fits the 16 bits of SAMPLES. -/
theorem ofNat_div_toNat (bc : W16) (d : Nat) : (BitVec.ofNat 16 (bc.toNat / d)).toNat = bc.toNat / d :=
  Nat.mod_eq_of_lt (Nat.lt_of_le_of_lt (Nat.div_le_self _ _) bc.isLt)

theorem cntValue_toNat (count : W16) (f : Bool) : (cntValue count f).toNat = if f then count.toNat else 0 := by
  cases f <;> rfl

/-! The counters. -/

theorem countIf_toNat_of_event {e : Bool} (h : e = true) (c : W32) :
    (countIf e c).toNat = min (c.toNat + 1) 4294967295 := by
  rw [countIf, if_pos h, satInc_eq_min]

theorem countIf_of_no_event {e : Bool} (h : ¬ e = true) (c : W32) : countIf e c = c := if_neg h

/-! The two operations in and outside IDLE. -/

theorem exec_cnt_of_idle {s : State} (h : s.phase = .idle) (f : Bool) (count : W16) :
    exec (.cnt f count) s = .next (countState f (cntValue count f) s) := if_pos h

theorem exec_cnt_of_not_idle {s : State} (h : s.phase ≠ .idle) (f : Bool) (count : W16) :
    exec (.cnt f count) s = .next (raiseState .seq s) := if_neg h

theorem exec_fla_of_idle {s : State} (h : s.phase = .idle) : exec .fla s = .next (flushAckState s) := if_pos h

theorem exec_fla_of_not_idle {s : State} (h : s.phase ≠ .idle) : exec .fla s = .next (raiseState .seq s) := if_neg h

/-- Settles O17: CNT leaves `countState` of the count; the registers of each class are `classify`'s equation for it, each counter is
`countIf` of its event, and the boundary table is evaluated. -/
theorem cntClassifiesAndCounts : Obligations.CntClassifiesAndCounts := by
  refine ⟨fun b h => (decode_of_cmd_eq h).trans (decode_word_cntOk _ _),
    fun b h => (decode_of_cmd_eq h).trans (decode_word_cntFail _ _), fun s f count => ?_⟩
  refine ⟨fun hidle => ⟨_, exec_cnt_of_idle hidle f count, ?_⟩, fun h => exec_cnt_of_not_idle h f count, by decide⟩
  rw [← cntValue_toNat]
  generalize cntValue count f = bc
  intro bytes n overBytes empty overBatch ok
  have hempty := classify_empty_iff s.cfg bc
  have hover := classify_overflow_iff s.cfg bc
  refine ⟨rfl, ?overBytes, ?empty, ?overBatch, ?ok,
    fun h => countIf_toNat_of_event (hempty.mpr h) _, fun h => countIf_of_no_event (mt hempty.mp h) _,
    fun h => countIf_toNat_of_event (hover.mpr h) _, fun h => countIf_of_no_event (mt hover.mp h) _,
    fun h => countIf_toNat_of_event (by simp [h]) _, fun h => countIf_of_no_event (by simp [h]) _, rfl⟩
  case overBytes =>
    intro h
    simp [classify_of_overBytes h]
  case empty =>
    rintro ⟨hlt, hzero⟩
    simp [classify_of_empty hlt hzero]
  case overBatch =>
    rintro ⟨hlt, hne, hbatch⟩
    simp [classify_of_overBatch hlt hne hbatch]
  case ok =>
    rintro ⟨hlt, hne, hle⟩
    rw [countState_countClass, countState_samples, countState_flushReq, classify_of_ok hlt hne hle]
    exact ⟨rfl, ofNat_div_toNat bc _, Bool.or_false _⟩

/-- Settles O18: FLA leaves `flushAckState`, whatever FLUSH_REQ was; 0x13 is none of the ten legal words. -/
theorem flaAcknowledgesFlush : Obligations.FlaAcknowledgesFlush := by
  refine ⟨fun b h => (decode_of_cmd_eq h).trans (decode_word_fla _ _), fun b h => ?_, fun s => ⟨fun hidle => ?_, ?_⟩⟩
  · have hword : Bundle.cmd b = 0x13 := h
    exact decode_error_of_not_mem_legalWords (by rw [hword]; decide)
  · exact ⟨_, exec_fla_of_idle hidle, rfl, satInc_eq_min _, rfl⟩
  · exact exec_fla_of_not_idle

end Sys2Proof.Machine
end

section
/-! SUPPORT. Proofs of the statements about the drain operations: ARM (spec 42_drain_ops R93, R94), XFD (R95), DEC (R96) with the decode
of a record as integers (40_datapath R82), and RUN (R98). -/

namespace Sys2Proof

/-- A bundle whose command word is none of the ten legal ones decodes to no operation. -/
theorem decode_error_of_cmd_eq {b : Bundle} {c : Byte} (h : Bundle.cmd b = c) (hc : c ∉ legalWords) :
    ∃ e, decode b = .error e :=
  decode_error_of_not_mem_legalWords (h ▸ hc)

/-- The integers three patterns stand for. -/
def Axes.ints {w : Nat} (v : Axes (BitVec w)) : Axes Int := v.map BitVec.toInt

end Sys2Proof

namespace Sys2Proof.Machine

/-! ARM: the length of the transfer and the three outcomes. -/

/-- The capacity of the buffer never cuts a batch that R10 allows (R94). -/
theorem xferLenOf_eq {c : Cfg} (hc : c.WellFormed) {k : Nat} (hk : k ≤ c.maxBatch) :
    xferLenOf c k = k * c.recordSize + c.headerSlack :=
  min_eq_left (batch_fits hc hk).1

/-- XFER_LEN holds the length of the transfer: it fits 16 bits, because the buffer's size does (R10, R94). -/
theorem armState_xferLen_toNat {s : State} (hc : s.cfg.WellFormed) (tm : W64) {k : W16} (hk : k.toNat ≤ s.cfg.maxBatch) :
    (armState tm k s).xferLen.toNat = xferLenOf s.cfg k.toNat := by
  have hfits := batch_fits hc hk
  have hlt : xferLenOf s.cfg k.toNat < 2 ^ 16 := by
    rw [xferLenOf_eq hc hk]
    omega
  rw [armState_xferLen, BitVec.toNat_ofNat, Nat.mod_eq_of_lt hlt]

theorem exec_arm_of_ready {s : State} {k : W16} (hidle : s.phase = .idle) (hflush : s.flushReq = false)
    (hpos : 1 ≤ k.toNat) (hle : k.toNat ≤ s.cfg.maxBatch) (tm : W64) :
    exec (.arm tm k) s = .next (armState tm k s) := by
  show execArm tm k s = _
  rw [execArm, if_neg (not_not.mpr hidle), if_neg (by simp [hflush]), if_neg (by omega)]

theorem exec_arm_of_busy {s : State} (h : s.phase ≠ .idle ∨ s.flushReq = true) (tm : W64) (k : W16) :
    exec (.arm tm k) s = .next (raiseState .seq s) := by
  show execArm tm k s = _
  by_cases hidle : s.phase = .idle
  · rw [execArm, if_neg (not_not.mpr hidle), if_pos (h.resolve_left (not_not.mpr hidle)), raise_eq]
  · rw [execArm, if_pos hidle, raise_eq]

theorem exec_arm_of_badCount {s : State} {k : W16} (hidle : s.phase = .idle) (hflush : s.flushReq = false)
    (hk : k.toNat = 0 ∨ s.cfg.maxBatch < k.toNat) (tm : W64) :
    exec (.arm tm k) s = .next (raiseState .arg s) := by
  show execArm tm k s = _
  rw [execArm, if_neg (not_not.mpr hidle), if_neg (by simp [hflush]), if_pos hk, raise_eq]

/-- Settles O20: ARM leaves `armState`, whose length is not cut by the capacity (`xferLenOf_eq`); the refusals are the two outcomes of
`execArm` that raise, in the order of its tests. -/
theorem armSetsUpDrain : Obligations.ArmSetsUpDrain := by
  refine ⟨fun b h => (decode_of_cmd_eq h).trans (decode_word_arm _ _),
    fun b h => decode_error_of_cmd_eq (c := 0x14) h (by decide),
    fun s tm k hc => ⟨fun hidle hflush hpos hle => ?_, fun h => exec_arm_of_busy h tm k,
      fun hidle hflush hk => exec_arm_of_badCount hidle hflush hk tm⟩, by decide⟩
  have hlen := armState_xferLen_toNat hc tm hle
  exact ⟨_, exec_arm_of_ready hidle hflush hpos hle tm, hlen, hlen.trans (xferLenOf_eq hc hle), rfl⟩

/-! XFD: the three outcomes. -/

theorem exec_xfdOk_of_armed {s : State} (h : s.phase = .armed) : exec (.xfd true) s = .next (xferOkState s) := if_pos h

theorem exec_xfdFail_of_armed {s : State} (h : s.phase = .armed) : exec (.xfd false) s = .next (xferFailState s) := if_pos h

theorem exec_xfd_of_not_armed {s : State} (h : s.phase ≠ .armed) (f : Bool) :
    exec (.xfd f) s = .next (raiseState .seq s) := if_neg h

/-- Settles O21: XFD leaves `xferOkState` or `xferFailState`, whose counter is the saturating increment; what ARMED says of K_LAT,
VALID_COUNT and DONE is part of the sequencing invariant. -/
theorem xfdEndsTransfer : Obligations.XfdEndsTransfer := by
  refine ⟨fun b h => (decode_of_cmd_eq h).trans (decode_word_xfdOk _ _),
    fun b h => (decode_of_cmd_eq h).trans (decode_word_xfdFail _ _), fun s => ⟨fun hphase => ?_, fun hphase => ?_,
      fun f h => exec_xfd_of_not_armed h f, fun hinv hphase => ?_⟩⟩
  · exact ⟨_, exec_xfdOk_of_armed hphase, rfl⟩
  · exact ⟨_, exec_xfdFail_of_armed hphase, satInc_eq_min _, rfl⟩
  · exact ⟨hinv.armed hphase, hinv.armedFresh hphase, (hinv.noResultYet (by simp [hphase])).1⟩

/-! The decode of a record as integers, stage by stage (40_datapath R71 to R82). -/

theorem highNibble_toNat (b : Byte) : (highNibble b).toNat = b.toNat / 16 := by
  have := b.isLt
  rw [highNibble, BitVec.extractLsb'_toNat, Nat.shiftRight_eq_div_pow]
  omega

theorem lowNibble_toNat (b : Byte) : (lowNibble b).toNat = b.toNat % 16 := by
  rw [lowNibble, BitVec.extractLsb'_toNat, Nat.shiftRight_zero]

theorem accNibble_toNat (accelHigh : Bool) (ext : Byte) :
    (accNibble accelHigh ext).toNat = refAccNibble accelHigh ext := by
  cases accelHigh
  · exact lowNibble_toNat ext
  · exact highNibble_toNat ext

theorem gyrNibble_toNat (accelHigh : Bool) (ext : Byte) :
    (gyrNibble accelHigh ext).toNat = refGyrNibble accelHigh ext := by
  cases accelHigh
  · exact highNibble_toNat ext
  · exact lowNibble_toNat ext

/-- The 16-bit field of an axis is the sign-extended number of its two bytes (R78). -/
theorem field16_toInt (h m : Byte) : (field16 h m).toInt = refField16 h m := by
  rw [field16, BitVec.toInt_signExtend_of_le (by decide), temp16_toInt]

theorem field16_fits (h m : Byte) : FitsX (field16 h m) := by
  have := h.isLt
  have := m.isLt
  rw [FitsX, field16_toInt, refField16, sextInt]
  split <;> omega

theorem accel20_ints (accelHigh : Bool) (b : RecordBytes) :
    (accel20 accelHigh b).ints = b.axes.map fun q => refField20 q.accH q.accM (refAccNibble accelHigh q.ext) := by
  simp [accel20, Axes.ints, Axes.map, reassemble20_toInt, accNibble_toNat]

theorem gyro20_ints (accelHigh : Bool) (b : RecordBytes) :
    (gyro20 accelHigh b).ints = b.axes.map fun q => refField20 q.gyrH q.gyrM (refGyrNibble accelHigh q.ext) := by
  simp [gyro20, Axes.ints, Axes.map, reassemble20_toInt, gyrNibble_toNat]

theorem accel16_ints (b : RecordBytes) : (accel16 b).ints = b.axes.map fun q => refField16 q.accH q.accM := by
  simp [accel16, Axes.ints, Axes.map, field16_toInt]

theorem gyro16_ints (b : RecordBytes) : (gyro16 b).ints = b.axes.map fun q => refField16 q.gyrH q.gyrM := by
  simp [gyro16, Axes.ints, Axes.map, field16_toInt]

theorem accel18_ints (a20 : Axes W32) : (accel18 a20).ints = a20.ints.map fun v => v / 4 := by
  simp [accel18, Axes.ints, Axes.map, asr_toInt, accShift]

theorem gyro19_ints (g20 : Axes W32) : (gyro19 g20).ints = g20.ints.map fun v => v / 2 := by
  simp [gyro19, Axes.ints, Axes.map, asr_toInt, gyrShift]

/-- Whether a pattern is a given one can be asked of their integers. -/
theorem beq_toInt {w : Nat} (u v : BitVec w) : (u == v) = (u.toInt == v.toInt) := by
  rw [Bool.eq_iff_iff, beq_iff_eq, beq_iff_eq, BitVec.toInt_inj]

theorem accBad_eq_ints (a20 : Axes W32) : accBad a20 = a20.ints.any fun v => v == -524288 := by
  simp only [accBad, Axes.any, Axes.ints, Axes.map, beq_toInt]
  rfl

theorem tempBad_eq_toInt (t16 : W16) : tempBad t16 = (t16.toInt == -32768) :=
  beq_toInt t16 sentinel16

theorem coarse_eq_ints (v : Axes W32) : coarse v = v.ints.any refOvf16 := rfl

theorem selectPath_ints (c : Bool) (fine narrow : Axes W32) :
    (selectPath c fine narrow).ints = if c then narrow.ints else fine.ints := by
  cases c <;> rfl

/-- Three values that fit 16 bits. -/
abbrev Fits16 (v : Axes W32) : Prop := FitsX v.x ∧ FitsX v.y ∧ FitsX v.z

theorem accel16_fits (b : RecordBytes) : Fits16 (accel16 b) := ⟨field16_fits _ _, field16_fits _ _, field16_fits _ _⟩

theorem gyro16_fits (b : RecordBytes) : Fits16 (gyro16 b) := ⟨field16_fits _ _, field16_fits _ _, field16_fits _ _⟩

/-- A sensor is coarse as soon as one of its shifted values overflows, so where it is not, none does (R77). -/
theorem fits16_of_not_coarse {v : Axes W32} (h : coarse v = false) : Fits16 v := by
  have hno : ¬ coarse v = true := by simp [h]
  rw [coarse, any_eq_true, ovf16_eq_true, ovf16_eq_true, ovf16_eq_true] at hno
  simp only [Fits16, FitsX]
  omega

/-- So whichever path is chosen, the three values fit 16 bits (R80). -/
theorem selectPath_fits (fine : Axes W32) {narrow : Axes W32} (h : Fits16 narrow) :
    Fits16 (selectPath (coarse fine) fine narrow) := by
  cases hc : coarse fine with
  | true => exact h
  | false => exact fits16_of_not_coarse hc

/-- The negation of the frame correction is exact on values of 16 bits (R81). -/
theorem neg_toInt_of_fits {v : W32} (h : FitsX v) : (-v).toInt = -v.toInt := by
  obtain ⟨hlo, -⟩ := h
  refine BitVec.toInt_neg_of_ne_intMin fun hv => ?_
  rw [hv] at hlo
  exact absurd hlo (by decide)

theorem frameCorrect_ints {v : Axes W32} (h : Fits16 v) : (frameCorrect v).ints = refFrame v.ints := by
  obtain ⟨-, hy, hz⟩ := h
  simp [frameCorrect, refFrame, Axes.ints, Axes.map, neg_toInt_of_fits hy, neg_toInt_of_fits hz]

/-- One sensor from its shifted and its 16-bit values to its output values (R77, R80, R81). -/
theorem correctedPath_ints (fine : Axes W32) {narrow : Axes W32} (h : Fits16 narrow) :
    (frameCorrect (selectPath (coarse fine) fine narrow)).ints =
      refFrame (if fine.ints.any refOvf16 then narrow.ints else fine.ints) := by
  rw [frameCorrect_ints (selectPath_fits fine h), selectPath_ints, coarse_eq_ints]

section decodeRecord
variable (accelHigh : Bool) (b : RecordBytes)

theorem decodeRecord_acc_ints : (decodeRecord accelHigh b).acc.ints = (refDecode accelHigh b).acc := by
  refine (correctedPath_ints (accel18 (accel20 accelHigh b)) (accel16_fits b)).trans ?_
  rw [accel16_ints, accel18_ints, accel20_ints]
  rfl

theorem decodeRecord_gyr_ints : (decodeRecord accelHigh b).gyr.ints = (refDecode accelHigh b).gyr := by
  refine (correctedPath_ints (gyro19 (gyro20 accelHigh b)) (gyro16_fits b)).trans ?_
  rw [gyro16_ints, gyro19_ints, gyro20_ints]
  rfl

theorem decodeRecord_temp_toInt : (decodeRecord accelHigh b).temp.toInt = (refDecode accelHigh b).temp :=
  temp16_toInt _ _

theorem decodeRecord_flags : (decodeRecord accelHigh b).flags = (refDecode accelHigh b).flags := by
  show sampleFlags (accel20 accelHigh b) _ _ _ = _
  rw [sampleFlags, accBad_eq_ints, tempBad_eq_toInt, temp16_toInt, coarse_eq_ints, coarse_eq_ints, accel18_ints,
    gyro19_ints, accel20_ints, gyro20_ints]
  rfl

end decodeRecord

/-! DEC. -/

section cursor
variable {s : State} {i : Nat}

/-- The cursor of a record fits the 16 bits of IDX. -/
theorem recordState_idx_toNat (hi : s.idx.toNat = i + 1) : (recordState i s).idx.toNat = i := by
  have := s.idx.isLt
  rw [recordState_idx, BitVec.toNat_ofNat]
  omega

/-- VALID_COUNT counts a valid record and does not wrap: before record 0 is decoded it has room for one more (R96, R99). -/
theorem SeqInv.recordState_validCount_toNat (h : SeqInv s) (hi : s.idx.toNat = i + 1) :
    (recordState i s).validCount.toNat = s.validCount.toNat + if (decodeAt s i).flags.valid then 1 else 0 := by
  have hle := h.validLe
  have := s.kLat.isLt
  rw [recordState_validCount]
  split
  · rw [BitVec.toNat_add, show (1 : W16).toNat = 1 from rfl]
    omega
  · rfl

/-- In DECODING a record is left to decode (R16). -/
theorem SeqInv.cursor_of_decoding (h : SeqInv s) (hp : s.phase = .decoding) : ∃ n, s.idx.toNat = n + 1 :=
  Nat.exists_eq_add_one.mpr (h.decoding.mp hp)

theorem SeqInv.decoding_of_cursor (h : SeqInv s) (hi : s.idx.toNat = i + 1) : s.phase = .decoding :=
  h.decoding.mpr (by omega)

/-- In DECODING the record below the cursor is in the buffer, so its decode answers a next state (R38, R96). -/
theorem SeqInv.decodeNext_eq (h : SeqInv s) (hi : s.idx.toNat = i + 1) : decodeNext s = .next (recordState i s) := by
  have hle := h.idxLe
  rw [decodeNext_succ hi, if_pos (recordInBuffer_of_lt h.cfg h.kLe (by omega))]

theorem SeqInv.exec_dec_eq (h : SeqInv s) (hi : s.idx.toNat = i + 1) : exec .dec s = .next (recordState i s) :=
  (if_pos (h.decoding_of_cursor hi)).trans (h.decodeNext_eq hi)

end cursor

theorem exec_dec_of_not_decoding {s : State} (h : s.phase ≠ .decoding) : exec .dec s = .next (raiseState .seq s) :=
  if_neg h

/-- The timestamp of a record of the drain, in the integers (R83). -/
theorem tsAt_toNat {s : State} {i : Nat} (h : i < s.kLat.toNat) :
    ((tsAt s i).toNat : Int) =
      ((s.tLat.toNat : Int) - ((s.kLat.toNat : Int) - 1 - i) * s.cfg.samplePeriodUs) % 2 ^ 64 := by
  have hage : ((s.kLat.toNat - 1 - i : Nat) : Int) = (s.kLat.toNat : Int) - 1 - i := by omega
  rw [tsAt, recordTs_toNat_cast _ _ h, Nat.cast_mul, hage]

/-- The two states differ at most in the elements DEC writes (R96). -/
def DecodeFrame (s t : State) : Prop :=
  t = { s with
    ax := t.ax, ay := t.ay, az := t.az, gx := t.gx, gy := t.gy, gz := t.gz, tempRaw := t.tempRaw, ts := t.ts
    sflags := t.sflags, out := t.out, validCount := t.validCount, idx := t.idx, phase := t.phase, done := t.done }

theorem recordState_frame (i : Nat) (s : State) : DecodeFrame s (recordState i s) := by
  apply State.ext <;> simp

/-- The values DEC writes are those of the decode with integers (R82, R96). -/
theorem recordState_results (i : Nat) (s : State) :
    let t := recordState i s
    let r := refDecode s.cfg.accelNibbleHigh (fetchRecord s i)
    (t.ax.toInt = r.acc.x ∧ t.ay.toInt = r.acc.y ∧ t.az.toInt = r.acc.z) ∧
      (t.gx.toInt = r.gyr.x ∧ t.gy.toInt = r.gyr.y ∧ t.gz.toInt = r.gyr.z) ∧
      t.tempRaw.toInt = r.temp ∧ t.sflags = r.flags := by
  intro t r
  have hacc : (decodeAt s i).acc.ints = r.acc := decodeRecord_acc_ints _ _
  have hgyr : (decodeAt s i).gyr.ints = r.gyr := decodeRecord_gyr_ints _ _
  have htemp : (decodeAt s i).temp.toInt = r.temp := decodeRecord_temp_toInt _ _
  have hflags : (decodeAt s i).flags = r.flags := decodeRecord_flags _ _
  simp [t, ← hacc, ← hgyr, htemp, hflags, Axes.ints, Axes.map]

/-- Settles O22: DEC leaves `recordState` of the record below the cursor; its values are those of the decode with integers
(`recordState_results`), its timestamp is `tsAt_toNat`, and VALID_COUNT does not wrap (`SeqInv.recordState_validCount_toNat`). -/
theorem decDecodesOneRecord : Obligations.DecDecodesOneRecord := by
  refine ⟨fun b h => (decode_of_cmd_eq h).trans (decode_word_dec _ _),
    fun b h => decode_error_of_cmd_eq (c := 0x16) h (by decide),
    fun s => ⟨fun hinv hphase => ?_, exec_dec_of_not_decoding⟩⟩
  obtain ⟨n, hn⟩ := hinv.cursor_of_decoding hphase
  have hle := hinv.idxLe
  refine ⟨by omega, _, hinv.exec_dec_eq hn, ?_⟩
  rw [hn, Nat.add_sub_cancel]
  intro i r
  obtain ⟨⟨hax, hay, haz⟩, ⟨hgx, hgy, hgz⟩, htemp, hflags⟩ := recordState_results n s
  have hr : (decodeAt s n).flags = r.flags := (recordState_sflags n s).symm.trans hflags
  refine ⟨hax, hay, haz, hgx, hgy, hgz, htemp, hflags, ?timestamp, ?valid, ?invalid, recordState_idx_toNat hn, ?last,
    ?notLast, recordState_frame n s⟩
  case timestamp =>
    rw [recordState_ts]
    exact tsAt_toNat (by omega)
  case valid =>
    intro hvalid
    exact ⟨by simp [hr, hvalid, Decoded.sample], by rw [hinv.recordState_validCount_toNat hn, hr, if_pos hvalid]⟩
  case invalid =>
    intro hvalid
    simp [hr, hvalid]
  case last =>
    intro h0
    simp [show n = 0 from h0]
  case notLast =>
    intro h0
    simp [show n ≠ 0 from h0, hphase]

/-! RUN: the loop is a row of DECs, and what it leaves. -/

/-- Decoding a record keeps the sequencing invariant (10_state R16, R21; R99). -/
theorem SeqInv.after_record {s : State} {i : Nat} (h : SeqInv s) (hi : s.idx.toNat = i + 1) : SeqInv (recordState i s) := by
  have hphase := h.decoding_of_cursor hi
  have hbusy : s.phase ≠ .idle := by simp [hphase]
  obtain ⟨hdone, herr⟩ := h.noResultYet hbusy
  have hflush : s.flushReq = false := by simpa using mt h.flushIdle hbusy
  have hnotArmed : (recordState i s).phase ≠ .armed := by
    rw [recordState_phase, hphase]
    split <;> simp
  have hidx := recordState_idx_toNat hi
  have hidxLe := h.idxLe
  have hvalidLe := h.validLe
  exact {
    cfg := by simpa using h.cfg
    idxLe := by rw [hidx, recordState_kLat]; omega
    kLe := by simpa using h.kLe
    decoding := by
      rw [hidx, recordState_phase, hphase]
      split <;> simp [*, Nat.pos_iff_ne_zero]
    armed := (absurd · hnotArmed)
    armedFresh := (absurd · hnotArmed)
    flushIdle := by simp [hflush]
    oneResult := by simp [herr]
    noResultYet := by
      rw [recordState_phase, recordState_done, recordState_drainErr]
      split <;> simp [*]
    validLe := by
      rw [h.recordState_validCount_toNat hi, hidx, recordState_kLat]
      split <;> omega
    xferLen := by simpa using fun _ _ => h.xferLen hbusy }

/-- What the decode of the records `n - 1` down to 0 leaves (R98). -/
def drainState : Nat → State → State
  | 0, s => s
  | i + 1, s => drainState i (recordState i s)

theorem SeqInv.decTimes_eq {n : Nat} {s : State} (h : SeqInv s) (hn : s.idx.toNat = n) :
    decTimes n s = .next (drainState n s) := by
  induction n generalizing s with
  | zero => rfl
  | succ i ih =>
    rw [decTimes, h.exec_dec_eq hn, andThen_next, ih (h.after_record hn) (recordState_idx_toNat hn), drainState]

/-- The loop of RUN ends because PHASE has left DECODING, after as many decodes as there were records (R98). -/
theorem SeqInv.runLoop_eq {n : Nat} {s : State} (h : SeqInv s) (hn : s.idx.toNat = n) :
    runLoop (n + 1) s = .next (drainState n s) := by
  induction n generalizing s with
  | zero =>
    have hend : s.phase ≠ .decoding := fun hp => absurd (h.decoding.mp hp) (by omega)
    rw [runLoop, if_neg hend, drainState]
  | succ i ih =>
    rw [runLoop, if_pos (h.decoding_of_cursor hn), h.decodeNext_eq hn, andThen_next,
      ih (h.after_record hn) (recordState_idx_toNat hn), drainState]

theorem SeqInv.exec_run_eq {s : State} (h : SeqInv s) (hp : s.phase = .decoding) :
    exec .run s = .next (drainState s.idx.toNat s) :=
  (if_pos hp).trans (h.runLoop_eq rfl)

theorem exec_run_of_not_decoding {s : State} (h : s.phase ≠ .decoding) : exec .run s = .next (raiseState .seq s) :=
  if_neg h

section DecodeFrame
variable {s t u : State}

theorem DecodeFrame.trans (h : DecodeFrame s t) (h' : DecodeFrame t u) : DecodeFrame s u := by
  unfold DecodeFrame at *
  rw [h', h]

/-- DEC writes no element its own decode reads, so the other records decode as before. -/
theorem DecodeFrame.decodeAt_eq (h : DecodeFrame s t) (i : Nat) : decodeAt t i = decodeAt s i := by
  unfold DecodeFrame at h
  exact decodeAt_congr i (by rw [h]) (by rw [h]) (by rw [h]) (by rw [h])

theorem DecodeFrame.tsAt_eq (h : DecodeFrame s t) (i : Nat) : tsAt t i = tsAt s i := by
  unfold DecodeFrame at h
  exact tsAt_congr i (by rw [h]) (by rw [h]) (by rw [h])

end DecodeFrame

/-- The last record a drain decodes is record 0, in a state that differs from the first one only in what DEC writes. -/
theorem drainState_succ (n : Nat) (s : State) : ∃ u, DecodeFrame s u ∧ drainState (n + 1) s = recordState 0 u := by
  induction n generalizing s with
  | zero => exact ⟨s, rfl, rfl⟩
  | succ i ih =>
    obtain ⟨u, hu, hlast⟩ := ih (recordState (i + 1) s)
    exact ⟨u, (recordState_frame (i + 1) s).trans hu, hlast⟩

/-- Settles O23: RUN and IDX DECs both answer `drainState`, which is `recordState 0` of a state that differs from the first one only in
what DEC writes (`drainState_succ`), so record 0 decodes there as it did before. -/
theorem runEqualsRemainingDecs : Obligations.RunEqualsRemainingDecs := by
  refine ⟨fun b h => (decode_of_cmd_eq h).trans (decode_word_run _ _),
    fun b h => decode_error_of_cmd_eq (c := 0x17) h (by decide),
    fun s => ⟨fun hinv hphase => ⟨hinv.idxLe.trans hinv.kLe, _, hinv.exec_run_eq hphase, hinv.decTimes_eq rfl, ?_⟩,
      exec_run_of_not_decoding⟩⟩
  obtain ⟨n, hn⟩ := hinv.cursor_of_decoding hphase
  obtain ⟨u, hu, hlast⟩ := drainState_succ n s
  rw [hn, hlast, ← hu.decodeAt_eq, ← hu.tsAt_eq]
  exact ⟨recordState_phase 0 u, recordState_idx 0 u, recordState_done 0 u, recordState_ax 0 u, recordState_ay 0 u,
    recordState_az 0 u, recordState_gx 0 u, recordState_gy 0 u, recordState_gz 0 u, recordState_tempRaw 0 u,
    recordState_sflags 0 u, recordState_ts 0 u, hu.trans (recordState_frame 0 u)⟩

end Sys2Proof.Machine
end

section
/-! SUPPORT. Proofs of the statements about the control operations: NOP (spec 43_control_ops R100) and RST (R101). -/

namespace Sys2Proof.Machine

section control
variable (s : State)

theorem exec_nop_eq : exec .nop s = .next s := rfl

theorem exec_rst_eq : exec .rst s = .next (resetRegisters s) := rfl

/-- What RST and the reset input leave is the reset value of every register (R31, R101, R118). -/
theorem registersZero_resetRegisters : RegistersZero (resetRegisters s) := by
  constructor <;> simp

/-- RXBUF, the draws and the power-on's draw stay, so a byte reads as before (R45, R101). -/
@[simp] theorem rxByte_resetRegisters (a : Nat) : rxByte (resetRegisters s) a = rxByte s a :=
  rxByte_congr (resetRegisters_rxbuf s) (resetRegisters_rxDraws s) (resetRegisters_powerEpoch s) a

@[simp] theorem resetRegisters_resetRegisters : resetRegisters (resetRegisters s) = resetRegisters s := by
  apply State.ext <;> simp

end control

/-- Settles O14: the word 0x00 is NOP whatever the operands, and 0x10 is none of the ten legal words, so issuing it raises ILLEGAL
alone. -/
theorem nopChangesNothing : Obligations.NopChangesNothing := by
  refine ⟨exec_nop_eq, fun b h => (decode_of_cmd_eq h).trans (decode_word_nop _ _), fun b h s => ?_⟩
  obtain ⟨e, he⟩ := decode_error_of_cmd_eq (c := 0x10) h (by decide)
  exact issueBundle_error he s

/-- Settles O15: RST leaves `resetRegisters` in every state, which has the registers at their reset values, keeps what a byte reads as
and is idempotent; the word 0x11 is none of the ten legal words. -/
theorem rstClearsEveryRegister : Obligations.RstClearsEveryRegister := by
  refine ⟨fun b h => (decode_of_cmd_eq h).trans (decode_word_rst _ _),
    fun b h => decode_error_of_cmd_eq (c := 0x11) h (by decide), fun s => ?_⟩
  have hagain : exec .rst (resetRegisters s) = .next (resetRegisters s) := by
    rw [exec_rst_eq, resetRegisters_resetRegisters]
  exact ⟨resetRegisters s, exec_rst_eq s, registersZero_resetRegisters s, resetRegisters_rxbuf s, resetRegisters_out s,
    rxByte_resetRegisters s, hagain⟩

end Sys2Proof.Machine
end

section
/-! SUPPORT. Proofs of the statements about the encoding in both directions (spec 30_encoding R53 to R57, R67). -/

namespace Sys2Proof

/-- Settles O1: the bundle of an operation is its command word between its operands, and each of the ten words decodes to the
operation it was written for. -/
theorem decodeEncodeRoundTrip : Obligations.DecodeEncodeRoundTrip := by
  intro i _
  cases i with
  | nop => exact decode_word_nop _ _
  | rst => exact decode_word_rst _ _
  | cnt f count =>
    cases f with
    | false => exact decode_word_cntFail _ _
    | true => exact decode_word_cntOk _ _
  | fla => exact decode_word_fla _ _
  | arm t k => exact decode_word_arm _ _
  | xfd f =>
    cases f with
    | false => exact decode_word_xfdFail _ _
    | true => exact decode_word_xfdOk _ _
  | dec => exact decode_word_dec _ _
  | run => exact decode_word_run _ _

/-- A bundle that decodes to an operation has one of the ten command words (R57). -/
theorem cmd_mem_legalWords_of_decode {b : Bundle} {i : Instr} (h : decode b = .ok i) : Bundle.cmd b ∈ legalWords := by
  by_contra hword
  obtain ⟨e, he⟩ := decode_error_of_not_mem_legalWords hword
  cases h.symm.trans he

/-- Settles O2: the bundle has one of the ten words (`cmd_mem_legalWords_of_decode`), each word decodes to an operation that carries
the operands it uses, and the fields of `encode` are that operation's word and operands. -/
theorem encodeKeepsUsedFields : Obligations.EncodeKeepsUsedFields := by
  intro b i h
  show Bundle.cmd (encode i) = Bundle.cmd b ∧ Bundle.opB (encode i) = _ ∧ Bundle.opA (encode i) = _
  rw [encode, cmd_bundleOf, opB_bundleOf, opA_bundleOf]
  have hword := cmd_mem_legalWords_of_decode h
  have hfields := decode_of_cmd_eq (b := b) rfl
  rw [h] at hfields
  generalize Bundle.cmd b = c at hword hfields ⊢
  simp only [legalWords, List.mem_cons, List.not_mem_nil, or_false] at hword
  rcases hword with rfl | rfl | rfl | rfl | rfl | rfl | rfl | rfl | rfl | rfl
  all_goals
    simp only [decode_word_nop, decode_word_rst, decode_word_cntFail, decode_word_cntOk, decode_word_fla, decode_word_arm,
      decode_word_xfdFail, decode_word_xfdOk, decode_word_dec, decode_word_run] at hfields
    cases hfields
    exact ⟨rfl, rfl, rfl⟩

/-- Settles O4: each bundle is a closed term, which the decoder evaluates. -/
theorem writtenBundlesDecode : Obligations.WrittenBundlesDecode := by
  unfold Obligations.WrittenBundlesDecode
  decide

end Sys2Proof
end

section
/-! SUPPORT. Proofs of the statements about the values a record decodes to: the narrow field as a shifted 20-bit field (spec 40_datapath
R79, R86) and the ranges of R80 to R82. -/

namespace Sys2Proof.Machine

/-! The narrow field. -/

/-- The 16-bit field is the 20-bit one without its nibble (R79). -/
theorem refField16_eq_div (h m : Byte) (n : Nibble) : refField16 h m = refField20 h m n.toNat / 16 := by
  have := n.isLt
  have := m.isLt
  rw [refField16, refField20, sextInt, sextInt]
  split <;> split <;> omega

/-- With nibble 0 the 20-bit field is the 16-bit one four bits up (R86). -/
theorem refField20_zero (h m : Byte) : refField20 h m 0 = refField16 h m * 16 := by
  rw [refField16, refField20, sextInt, sextInt]
  split <;> split <;> omega

theorem asr_asr (n k : Nat) (v : W32) : asr n (asr k v) = asr (k + n) v := by
  apply BitVec.eq_of_toInt_eq
  rw [asr_toInt, asr_toInt, asr_toInt, Int.ediv_ediv_of_nonneg (by positivity), pow_add]

theorem field16_eq_asr (h m : Byte) (n : Nibble) : field16 h m = asr 4 (reassemble20 h m n) := by
  apply BitVec.eq_of_toInt_eq
  rw [field16_toInt, asr_toInt, reassemble20_toInt]
  exact refField16_eq_div h m n

/-- Settles O34: the field is `field16_eq_asr`, and two shifts are one (`asr_asr`). -/
theorem narrowFieldIsShiftedField : Obligations.NarrowFieldIsShiftedField := by
  intro h m n v
  rw [asr_asr, asr_asr]
  exact ⟨field16_eq_asr h m n, field16_eq_asr h m n, field16_eq_asr h m n⟩

/-- A field with nibble 0, shifted by less than the nibble's four bits, is a multiple of the narrow field (R86). -/
theorem asr_reassemble20_zero (h m : Byte) {n : Nat} (hn : n ≤ 4) :
    (asr n (reassemble20 h m 0)).toInt = (field16 h m).toInt * 2 ^ (4 - n) := by
  have hsplit : (16 : Int) = 2 ^ (4 - n) * 2 ^ n := by rw [← pow_add, Nat.sub_add_cancel hn]; rfl
  rw [asr_toInt, reassemble20_toInt, field16_toInt, show (0 : Nibble).toNat = 0 from rfl, refField20_zero, hsplit, ← mul_assoc]
  exact Int.mul_ediv_cancel _ (by positivity)

/-- Settles O38: the shifted field is 4 times (accelerometer) and 8 times (gyroscope) the narrow one (`asr_reassemble20_zero`), and the
factors make up for it. -/
theorem pathsAgreeUnderScaleRatios : Obligations.PathsAgreeUnderScaleRatios := by
  intro k h m hacc hgyr
  have ha : (asr 2 (reassemble20 h m 0)).toInt = (field16 h m).toInt * 4 := asr_reassemble20_zero h m (by decide)
  have hg : (asr 1 (reassemble20 h m 0)).toInt = (field16 h m).toInt * 8 := asr_reassemble20_zero h m (by decide)
  simp only [scaleBy, accelScale, gyroScale, if_true, Bool.false_eq_true, if_false, hacc, hgyr, ha, hg]
  push_cast
  constructor <;> ring

/-! The ranges. -/

/-- Three corrected values of one sensor: X as the path gives it, Y and Z negated (R81). -/
abbrev FitsFrame (v : Axes W32) : Prop := FitsX v.x ∧ FitsYZ v.y ∧ FitsYZ v.z

theorem neg_fits {v : W32} (h : FitsX v) : FitsYZ (-v) := by
  have hneg := neg_toInt_of_fits h
  simp only [FitsX, FitsYZ] at *
  omega

/-- The frame correction of whichever path is chosen lies in the range of R81. -/
theorem correctedPath_fits (fine : Axes W32) {narrow : Axes W32} (h : Fits16 narrow) :
    FitsFrame (frameCorrect (selectPath (coarse fine) fine narrow)) := by
  obtain ⟨hx, hy, hz⟩ := selectPath_fits fine h
  exact ⟨hx, neg_fits hy, neg_fits hz⟩

/-- The sentinel is so far out that its axis overflows 16 bits after the shift (R82). -/
theorem ovf16_of_sentinel20 {v : W32} (h : v = sentinel20) : ovf16 (asr accShift v) = true := by
  rw [h]
  decide

theorem coarse_of_accBad {a20 : Axes W32} (h : accBad a20 = true) : coarse (accel18 a20) = true := by
  rw [coarse, any_eq_true]
  exact ((accBad_eq_true a20).mp h).imp ovf16_of_sentinel20 (.imp ovf16_of_sentinel20 ovf16_of_sentinel20)

section decodeRecord
variable (accelHigh : Bool) (b : RecordBytes)

theorem decodeRecord_acc_fits : FitsFrame (decodeRecord accelHigh b).acc :=
  correctedPath_fits (accel18 (accel20 accelHigh b)) (accel16_fits b)

theorem decodeRecord_gyr_fits : FitsFrame (decodeRecord accelHigh b).gyr :=
  correctedPath_fits (gyro19 (gyro20 accelHigh b)) (gyro16_fits b)

theorem decodeRecord_coarseA (h : (decodeRecord accelHigh b).flags.accBad = true) :
    (decodeRecord accelHigh b).flags.coarseA = true :=
  coarse_of_accBad h

/-- A valid record has neither BAD flag (R24, R75). -/
theorem decodeRecord_valid (h : (decodeRecord accelHigh b).flags.valid = true) :
    (decodeRecord accelHigh b).flags.accBad = false ∧ (decodeRecord accelHigh b).flags.tempBad = false :=
  (sampleFlags_valid_eq_true _ _ _ _).mp h

/-- The temperature of a valid record is not the sentinel (R74, R75). -/
theorem decodeRecord_temp_ne (h : (decodeRecord accelHigh b).flags.valid = true) :
    (decodeRecord accelHigh b).temp.toInt ≠ -32768 := by
  obtain ⟨-, htemp⟩ := decodeRecord_valid accelHigh b h
  intro hsentinel
  have hbad : (decodeRecord accelHigh b).flags.tempBad = true :=
    (tempBad_eq_true _).mpr ((eq_sentinel16_iff _).mpr hsentinel)
  exact absurd (htemp.symm.trans hbad) (by decide)

end decodeRecord

/-- Settles O35: each sensor is `correctedPath_fits`, and ACC_BAD is an axis at the sentinel, which overflows after the shift. -/
theorem decodedValuesInRange : Obligations.DecodedValuesInRange := by
  intro accelHigh r d
  obtain ⟨hax, hay, haz⟩ := decodeRecord_acc_fits accelHigh r
  obtain ⟨hgx, hgy, hgz⟩ := decodeRecord_gyr_fits accelHigh r
  exact ⟨hax, hay, haz, hgx, hgy, hgz, decodeRecord_coarseA accelHigh r⟩

end Sys2Proof.Machine
end

section
/-! SUPPORT. Proofs that every step keeps the configuration (spec 00_scope R8, 10_state R34) and the five invariants: sequencing (10_state
R14 to R21, R99), the form of RXBUF (20_memory R36, R44), the result registers (10_state R24, 40_datapath R81), the emitted samples
(95_test_vectors T2, T3) and the count registers (10_state R18, R19). -/

namespace Sys2Proof.Machine

/-- Settles O9: every effect leaves the configuration, a record's decode by `recordState_cfg`. -/
theorem configurationNeverChanges : Obligations.ConfigurationNeverChanges := by
  intro s t h
  exact step_keeps (P := fun u => u.cfg = s.cfg)
    (hscript := fun _ _ h => h) (hraise := fun _ _ h => h) (hreset := fun _ h => h) (hpower := fun _ h => h)
    (hstore := fun _ _ _ h _ _ _ => h) (hcnt := fun _ _ _ h _ => h) (hfla := fun _ h _ => h)
    (harm := fun _ _ _ h _ _ _ _ => h) (hok := fun _ h _ => h) (hfail := fun _ h _ => h)
    (hrec := fun u i h _ _ _ => (recordState_cfg i u).trans h) rfl h

/-! The registers at their reset values meet the invariants that speak of registers. -/

section RegistersZero
variable {s : State}

theorem registersZero_resetWith (c : Cfg) : RegistersZero (State.resetWith c) := by
  constructor <;> simp

theorem registersZero_powerOnState (s : State) : RegistersZero (powerOnState s) := by
  constructor <;> simp

theorem RegistersZero.seqInv (h : RegistersZero s) (hc : s.cfg.WellFormed) : SeqInv s where
  cfg := hc
  idxLe := by simp [h.idx]
  kLe := by simp [h.kLat]
  decoding := by simp [h.phase, h.idx]
  armed := by simp [h.phase]
  armedFresh := by simp [h.phase]
  flushIdle := fun _ => h.phase
  oneResult := by simp [h.done]
  noResultYet := by simp [h.phase]
  validLe := by simp [h.validCount, h.idx]
  xferLen := by simp [h.phase]

theorem RegistersZero.resultInv (h : RegistersZero s) : ResultInv s := by
  obtain ⟨hax, hay, haz, hgx, hgy, hgz, -, -⟩ := h.results
  constructor <;> simp [*, h.sflags, FitsX, FitsYZ]

theorem RegistersZero.countInv (h : RegistersZero s) : CountInv s := by
  simp [CountInv, h.countClass, h.byteCount, h.samples]

end RegistersZero

/-! Sequencing. -/

/-- An update of no element the sequencing invariant speaks of keeps it. -/
theorem SeqInv.of_eq {s t : State} (h : SeqInv s) (hcfg : t.cfg = s.cfg) (hphase : t.phase = s.phase) (hidx : t.idx = s.idx)
    (hk : t.kLat = s.kLat) (hlen : t.xferLen = s.xferLen) (hvalid : t.validCount = s.validCount) (hdone : t.done = s.done)
    (herr : t.drainErr = s.drainErr) (hflush : t.flushReq = true → t.phase = .idle) : SeqInv t where
  cfg := hcfg ▸ h.cfg
  idxLe := by rw [hidx, hk]; exact h.idxLe
  kLe := by rw [hk, hcfg]; exact h.kLe
  decoding := by rw [hphase, hidx]; exact h.decoding
  armed := by rw [hphase, hk]; exact h.armed
  armedFresh := by rw [hphase, hvalid]; exact h.armedFresh
  flushIdle := hflush
  oneResult := by rw [hdone, herr]; exact h.oneResult
  noResultYet := by rw [hphase, hdone, herr]; exact h.noResultYet
  validLe := by rw [hvalid, hidx, hk]; exact h.validLe
  xferLen := by rw [hphase, hlen, hk, hcfg]; exact h.xferLen

theorem SeqInv.withScript {s : State} (h : SeqInv s) (l : List EnvMove) : SeqInv (withScript l s) :=
  h.of_eq rfl rfl rfl rfl rfl rfl rfl rfl h.flushIdle

/-- Outside DECODING no record is left to decode (R16). -/
theorem SeqInv.idx_of_not_decoding {s : State} (h : SeqInv s) (hp : s.phase ≠ .decoding) : s.idx.toNat = 0 :=
  Nat.eq_zero_of_not_pos (mt h.decoding.mpr hp)

theorem SeqInv.flushReq_of_not_idle {s : State} (h : SeqInv s) (hp : s.phase ≠ .idle) : s.flushReq = false := by
  simpa using mt h.flushIdle hp

/-- ARM starts a drain of K records, none decoded and none counted (R93, R94). -/
theorem SeqInv.after_arm {s : State} (h : SeqInv s) (tm : W64) {k : W16} (hflush : s.flushReq = false) (hpos : 1 ≤ k.toNat)
    (hle : k.toNat ≤ s.cfg.maxBatch) : SeqInv (armState tm k s) where
  cfg := h.cfg
  idxLe := by simp
  kLe := hle
  decoding := by simp
  armed := fun _ => hpos
  armedFresh := fun _ => rfl
  flushIdle := by simp [hflush]
  oneResult := by simp
  noResultYet := by simp
  validLe := by simp
  xferLen := fun _ => (armState_xferLen_toNat h.cfg tm hle).trans (xferLenOf_eq h.cfg hle)

/-- A successful transfer leaves all K records to decode (R95). -/
theorem SeqInv.after_xferOk {s : State} (h : SeqInv s) (hp : s.phase = .armed) : SeqInv (xferOkState s) where
  cfg := h.cfg
  idxLe := Nat.le_refl _
  kLe := h.kLe
  decoding := ⟨fun _ => h.armed hp, fun _ => rfl⟩
  armed := by simp
  armedFresh := by simp
  flushIdle := by simp [h.flushReq_of_not_idle, hp]
  oneResult := h.oneResult
  noResultYet := fun _ => h.noResultYet (by simp [hp])
  validLe := by simp [h.armedFresh hp]
  xferLen := fun _ => h.xferLen (by simp [hp])

/-- A failed transfer ends the drain in IDLE with DRAIN_ERR, before anything was decoded (R95). -/
theorem SeqInv.after_xferFail {s : State} (h : SeqInv s) (hp : s.phase = .armed) : SeqInv (xferFailState s) where
  cfg := h.cfg
  idxLe := h.idxLe
  kLe := h.kLe
  decoding := by simp [h.idx_of_not_decoding, hp]
  armed := by simp
  armedFresh := by simp
  flushIdle := fun _ => rfl
  oneResult := by simp [(h.noResultYet (by simp [hp])).1]
  noResultYet := by simp
  validLe := h.validLe
  xferLen := by simp

/-- Settles O48: the resets leave every register 0, ARM and XFD are `SeqInv.after_arm`, `SeqInv.after_xferOk` and
`SeqInv.after_xferFail`, a record's decode is `SeqInv.after_record`, and of what the invariant speaks of the other effects touch only
FLUSH_REQ, in IDLE. -/
theorem stepKeepsSequencing : Obligations.StepKeepsSequencing := by
  intro s t hs h
  exact step_keeps
    (hscript := fun _ l hu => hu.withScript l)
    (hraise := fun _ _ hu => hu.of_eq rfl rfl rfl rfl rfl rfl rfl rfl hu.flushIdle)
    (hreset := fun u hu => (registersZero_resetRegisters u).seqInv hu.cfg)
    (hpower := fun u hu => (registersZero_powerOnState u).seqInv hu.cfg)
    (hstore := fun _ _ _ hu _ _ _ => hu.of_eq rfl rfl rfl rfl rfl rfl rfl rfl hu.flushIdle)
    (hcnt := fun _ _ _ hu hp => hu.of_eq rfl rfl rfl rfl rfl rfl rfl rfl fun _ => hp)
    (hfla := fun _ hu hp => hu.of_eq rfl rfl rfl rfl rfl rfl rfl rfl fun _ => hp)
    (harm := fun _ tm _ hu _ hflush hpos hle => hu.after_arm tm hflush hpos hle)
    (hok := fun _ hu hp => hu.after_xferOk hp)
    (hfail := fun _ hu hp => hu.after_xferFail hp)
    (hrec := fun _ _ hu _ hi _ => hu.after_record hi) hs h

/-! The form of RXBUF. -/

/-- An update of no element the invariant of RXBUF speaks of keeps it. -/
theorem RxInv.of_eq {s t : State} (h : RxInv s) (hbuf : t.rxbuf = s.rxbuf) (hwin : t.rxWin = s.rxWin)
    (hdraws : t.rxDraws = s.rxDraws) (hcfg : t.cfg = s.cfg) (hlen : t.xferLen.toNat ≤ t.cfg.fifoCapacity) : RxInv t where
  memForm := by rw [hbuf]; exact h.memForm
  memInBuffer := by rw [hbuf, hcfg]; exact h.memInBuffer
  winForm := by rw [hwin]; exact h.winForm
  winWritten := by rw [hwin, hbuf]; exact h.winWritten
  xferInBuffer := hlen
  drawForm := by rw [hdraws]; exact h.drawForm
  drawInBuffer := by rw [hdraws, hcfg]; exact h.drawInBuffer
  winDelivered := by rw [hwin, hdraws]; exact h.winDelivered

/-- With nothing written and nothing undelivered the invariant asks only that the burst fits. -/
theorem RxInv.of_nil {s : State} (hbuf : s.rxbuf = []) (hwin : s.rxWin = []) (hdraws : s.rxDraws = [])
    (hlen : s.xferLen.toNat ≤ s.cfg.fifoCapacity) : RxInv s := by
  constructor <;> simp [*]

/-- A write below FIFO_CAPACITY lists its own addresses, in their order, and delivers them (R44). -/
theorem RxInv.after_burst {s : State} (h : RxInv s) {a : Nat} {bs : List Byte} (hfits : a + bs.length ≤ s.cfg.fifoCapacity) :
    RxInv (storeBurst a bs s) where
  memForm := memWriteList_wf h.memForm a bs
  memInBuffer := memWriteList_below h.memInBuffer a bs hfits
  winForm := addrInsertRange_rising h.winForm a bs.length
  winWritten := by
    intro x hx
    rw [storeBurst_rxbuf, memRead_memWriteList]
    rcases mem_addrInsertRange.mp hx with ⟨hlo, hhi⟩ | hold
    · rw [if_pos hlo, List.getElem?_eq_getElem (by omega)]
      exact ⟨_, rfl⟩
    · obtain ⟨b, hb⟩ := h.winWritten x hold
      rw [hb]
      split
      · cases bs[x - a]? <;> exact ⟨_, rfl⟩
      · exact ⟨b, rfl⟩
  xferInBuffer := h.xferInBuffer
  drawForm := memForget_wf h.drawForm a bs.length
  drawInBuffer := fun p hp => h.drawInBuffer p (mem_memForget hp)
  winDelivered := by
    intro x hx
    rw [storeBurst_rxDraws, memRead_memForget]
    split
    · rfl
    · next hout => exact h.winDelivered x ((mem_addrInsertRange.mp hx).resolve_left hout)

/-- The length of a transfer is cut at FIFO_CAPACITY (R94). -/
theorem armState_xferLen_le (tm : W64) (k : W16) (s : State) : (armState tm k s).xferLen.toNat ≤ s.cfg.fifoCapacity :=
  (Nat.mod_le _ _).trans (min_le_right _ _)

/-- ARM forgets what was written in the last drain and leaves the buffer (R93). -/
theorem RxInv.after_arm {s : State} (h : RxInv s) (tm : W64) (k : W16) : RxInv (armState tm k s) where
  memForm := h.memForm
  memInBuffer := h.memInBuffer
  winForm := .nil
  winWritten := by simp
  xferInBuffer := armState_xferLen_le tm k s
  drawForm := h.drawForm
  drawInBuffer := h.drawInBuffer
  winDelivered := by simp

/-- A successful transfer draws bytes below XFER_LEN that were not written in this drain (R45). -/
theorem RxInv.after_xferOk {s : State} (h : RxInv s) : RxInv (xferOkState s) where
  memForm := h.memForm
  memInBuffer := h.memInBuffer
  winForm := h.winForm
  winWritten := h.winWritten
  xferInBuffer := h.xferInBuffer
  drawForm := memFill_wf _ h.drawForm _
  drawInBuffer := memFill_below _ h.drawInBuffer fun _ hx => Nat.lt_of_lt_of_le (mem_undelivered.mp hx).1 h.xferInBuffer
  winDelivered := by
    intro x hx
    rw [xferOkState_rxDraws, memRead_memFill, if_neg fun hu : x ∈ undelivered s => (mem_undelivered.mp hu).2 hx]
    exact h.winDelivered x hx

/-- Settles O49: the transport's write, ARM and a successful XFD are `RxInv.after_burst`, `RxInv.after_arm` and
`RxInv.after_xferOk`; power-on lists nothing, and no other effect touches the buffer or makes the burst longer. -/
theorem stepKeepsRxbufForm : Obligations.StepKeepsRxbufForm := by
  intro s t hs h
  exact step_keeps
    (hscript := fun _ _ hu => hu.of_eq rfl rfl rfl rfl hu.xferInBuffer)
    (hraise := fun _ _ hu => hu.of_eq rfl rfl rfl rfl hu.xferInBuffer)
    (hreset := fun _ hu => hu.of_eq rfl rfl rfl rfl (Nat.zero_le _))
    (hpower := fun _ _ => .of_nil rfl rfl rfl (Nat.zero_le _))
    (hstore := fun _ _ _ hu _ _ hfits => hu.after_burst hfits)
    (hcnt := fun _ _ _ hu _ => hu.of_eq rfl rfl rfl rfl hu.xferInBuffer)
    (hfla := fun _ hu _ => hu.of_eq rfl rfl rfl rfl hu.xferInBuffer)
    (harm := fun _ tm k hu _ _ _ _ => hu.after_arm tm k)
    (hok := fun _ hu _ => hu.after_xferOk)
    (hfail := fun _ hu _ => hu.of_eq rfl rfl rfl rfl hu.xferInBuffer)
    (hrec := fun _ _ hu _ _ _ => hu.of_eq (by simp) (by simp) (by simp) (by simp) (by simpa using hu.xferInBuffer)) hs h

/-! The result registers. -/

/-- An update of no result register and no sample flag keeps their invariant. -/
theorem ResultInv.of_eq {s t : State} (h : ResultInv s) (hax : t.ax = s.ax) (hay : t.ay = s.ay) (haz : t.az = s.az)
    (hgx : t.gx = s.gx) (hgy : t.gy = s.gy) (hgz : t.gz = s.gz) (hflags : t.sflags = s.sflags) : ResultInv t where
  ax := hax ▸ h.ax
  ay := hay ▸ h.ay
  az := haz ▸ h.az
  gx := hgx ▸ h.gx
  gy := hgy ▸ h.gy
  gz := hgz ▸ h.gz
  valid := hflags ▸ h.valid
  accBadCoarse := hflags ▸ h.accBadCoarse

/-- The decode of a record establishes the invariant, whatever was in the registers before. -/
theorem resultInv_recordState (i : Nat) (s : State) : ResultInv (recordState i s) := by
  obtain ⟨hax, hay, haz⟩ : FitsFrame (decodeAt s i).acc := decodeRecord_acc_fits _ _
  obtain ⟨hgx, hgy, hgz⟩ : FitsFrame (decodeAt s i).gyr := decodeRecord_gyr_fits _ _
  exact {
    ax := (recordState_ax i s).symm ▸ hax
    ay := (recordState_ay i s).symm ▸ hay
    az := (recordState_az i s).symm ▸ haz
    gx := (recordState_gx i s).symm ▸ hgx
    gy := (recordState_gy i s).symm ▸ hgy
    gz := (recordState_gz i s).symm ▸ hgz
    valid := by
      rw [recordState_sflags]
      exact decodeRecord_valid _ _
    accBadCoarse := by
      rw [recordState_sflags]
      exact decodeRecord_coarseA _ _ }

/-- Settles O50: a record's decode establishes the invariant (`resultInv_recordState`), the resets leave every register 0, and no other
effect touches the registers. -/
theorem stepKeepsResultRange : Obligations.StepKeepsResultRange := by
  intro s t hs h
  exact step_keeps
    (hscript := fun _ _ hu => hu.of_eq rfl rfl rfl rfl rfl rfl rfl)
    (hraise := fun _ _ hu => hu.of_eq rfl rfl rfl rfl rfl rfl rfl)
    (hreset := fun u _ => (registersZero_resetRegisters u).resultInv)
    (hpower := fun u _ => (registersZero_powerOnState u).resultInv)
    (hstore := fun _ _ _ hu _ _ _ => hu.of_eq rfl rfl rfl rfl rfl rfl rfl)
    (hcnt := fun _ _ _ hu _ => hu.of_eq rfl rfl rfl rfl rfl rfl rfl)
    (hfla := fun _ hu _ => hu.of_eq rfl rfl rfl rfl rfl rfl rfl)
    (harm := fun _ _ _ hu _ _ _ _ => hu.of_eq rfl rfl rfl rfl rfl rfl rfl)
    (hok := fun _ hu _ => hu.of_eq rfl rfl rfl rfl rfl rfl rfl)
    (hfail := fun _ hu _ => hu.of_eq rfl rfl rfl rfl rfl rfl rfl)
    (hrec := fun u i _ _ _ _ => resultInv_recordState i u) hs h

/-! The emitted samples. -/

/-- The sample a valid record makes is one R75 and R81 allow. -/
theorem sampleOk_of_valid {s : State} {i : Nat} (h : (decodeAt s i).flags.valid = true) (ts : W64) :
    SampleOk ((decodeAt s i).sample ts) := by
  obtain ⟨hax, hay, haz⟩ : FitsFrame (decodeAt s i).acc := decodeRecord_acc_fits _ _
  obtain ⟨hgx, hgy, hgz⟩ : FitsFrame (decodeAt s i).gyr := decodeRecord_gyr_fits _ _
  exact ⟨hax, hay, haz, hgx, hgy, hgz, decodeRecord_temp_ne _ _ h⟩

theorem outInv_recordState {s : State} (h : OutInv s) (i : Nat) : OutInv (recordState i s) := by
  intro r hr
  rw [recordState_out] at hr
  split at hr
  · next hvalid =>
    rcases List.mem_append.mp hr with hold | hnew
    · exact h r hold
    · rw [List.mem_singleton.mp hnew]
      exact sampleOk_of_valid hvalid _
  · exact h r hr

/-- Settles O51: a record's decode emits only a valid sample (`outInv_recordState`), power-on empties OUT, and no other effect touches
it. -/
theorem stepKeepsEmittedSamples : Obligations.StepKeepsEmittedSamples := by
  intro s t hs h
  exact step_keeps (P := OutInv)
    (hscript := fun _ _ hu => hu) (hraise := fun _ _ hu => hu) (hreset := fun _ hu => hu)
    (hpower := fun _ _ _ hr => absurd hr List.not_mem_nil)
    (hstore := fun _ _ _ hu _ _ _ => hu) (hcnt := fun _ _ _ hu _ => hu) (hfla := fun _ hu _ => hu)
    (harm := fun _ _ _ hu _ _ _ _ => hu) (hok := fun _ hu _ => hu) (hfail := fun _ hu _ => hu)
    (hrec := fun _ i hu _ _ _ => outInv_recordState hu i) hs h

/-! The count registers. -/

theorem CountInv.of_eq {s t : State} (h : CountInv s) (hclass : t.countClass = s.countClass) (hbytes : t.byteCount = s.byteCount)
    (hsamples : t.samples = s.samples) (hcfg : t.cfg = s.cfg) : CountInv t := by
  rw [CountInv, hclass, hbytes, hsamples, hcfg]
  exact h

/-- A count is always classified as something (R89). -/
theorem classify_cls_ne_none (c : Cfg) (bc : W16) : (classify c bc).cls ≠ .none := by
  unfold classify
  split_ifs <;> simp

/-- CNT writes the count and its own classification (R87). -/
theorem countInv_countState (f : Bool) (bc : W16) (s : State) : CountInv (countState f bc s) := by
  rw [CountInv, countState_countClass, if_neg (classify_cls_ne_none s.cfg bc)]
  exact ⟨rfl, rfl⟩

/-- Settles O52: CNT establishes the invariant (`countInv_countState`), the resets leave the count registers 0, and no other effect
touches them. -/
theorem stepKeepsCountRegisters : Obligations.StepKeepsCountRegisters := by
  intro s t hs h
  exact step_keeps
    (hscript := fun _ _ hu => hu) (hraise := fun _ _ hu => hu)
    (hreset := fun u _ => (registersZero_resetRegisters u).countInv)
    (hpower := fun u _ => (registersZero_powerOnState u).countInv)
    (hstore := fun _ _ _ hu _ _ _ => hu)
    (hcnt := fun u f bc _ _ => countInv_countState f bc u)
    (hfla := fun _ hu _ => hu) (harm := fun _ _ _ hu _ _ _ _ => hu) (hok := fun _ hu _ => hu) (hfail := fun _ hu _ => hu)
    (hrec := fun _ _ hu _ _ _ => CountInv.of_eq hu (by simp) (by simp) (by simp) (by simp)) hs h

/-- Settles O47: the reset state has every register 0 and nothing listed, written or emitted. -/
theorem resetMeetsInvariants : Obligations.ResetMeetsInvariants := by
  intro c hc
  have hzero := registersZero_resetWith c
  exact ⟨hzero.seqInv hc, .of_nil rfl rfl rfl (Nat.zero_le _), hzero.resultInv,
    fun _ hr => absurd hr List.not_mem_nil, hzero.countInv⟩

end Sys2Proof.Machine
end

section
/-! SUPPORT. Proofs of the statements about every operation at once: the table of legality (spec 60_exceptions R105, R106), the sticky
error bits (R107, R109), the pending flush (41_count_ops R90, R91), and what operations leave of RXBUF (20_memory R44, R45). -/

namespace Sys2Proof.Machine

/-! The table of R105, one equation per operation that it restricts. -/

section accepted
variable (p : Phase) (flush : Bool)

@[simp] theorem accepted_cnt (f : Bool) (count : W16) : accepted (.cnt f count) p flush = decide (p = .idle) := by
  cases p <;> rfl

@[simp] theorem accepted_fla : accepted .fla p flush = decide (p = .idle) := by
  cases p <;> rfl

@[simp] theorem accepted_arm (tm : W64) (k : W16) : accepted (.arm tm k) p flush = (decide (p = .idle) && !flush) := by
  cases p <;> simp [accepted]

@[simp] theorem accepted_xfd (f : Bool) : accepted (.xfd f) p flush = decide (p = .armed) := by
  cases p <;> rfl

@[simp] theorem accepted_dec : accepted .dec p flush = decide (p = .decoding) := by
  cases p <;> rfl

@[simp] theorem accepted_run : accepted .run p flush = decide (p = .decoding) := by
  cases p <;> rfl

end accepted

section legality
variable {s : State}

/-- An operation the table refuses sets SEQ and nothing else (R105, R108). -/
theorem exec_of_refused {i : Instr} (h : accepted i s.phase s.flushReq = false) : exec i s = .next (raiseState .seq s) := by
  cases i with
  | nop => cases h
  | rst => cases h
  | cnt f count => exact exec_cnt_of_not_idle (by simpa using h) f count
  | fla => exact exec_fla_of_not_idle (by simpa using h)
  | arm tm k => exact exec_arm_of_busy (by simpa [imp_iff_not_or] using h) tm k
  | xfd f => exact exec_xfd_of_not_armed (by simpa using h) f
  | dec => exact exec_dec_of_not_decoding (by simpa using h)
  | run => exact exec_run_of_not_decoding (by simpa using h)

/-- Only an ARM has an operand that can be out of range; then it sets ARG and nothing else (R106, R108). -/
theorem exec_of_badOperand {i : Instr} (h : accepted i s.phase s.flushReq = true) (hk : ¬ operandsOk s.cfg i) :
    exec i s = .next (raiseState .arg s) := by
  cases i with
  | arm tm k =>
    obtain ⟨hidle, hflush⟩ : s.phase = .idle ∧ s.flushReq = false := by simpa using h
    rw [operandsOk] at hk
    exact exec_arm_of_badCount hidle hflush (by omega) tm
  | nop | rst | cnt | fla | xfd | dec | run => exact absurd trivial hk

theorem drainState_err (n : Nat) (s : State) : (drainState n s).err = s.err := by
  induction n generalizing s with
  | zero => rfl
  | succ i ih => exact (ih _).trans (recordState_err i s)

/-- Every other operation completes; ERR stays as it was, but for RST, which clears it (R101, R107). -/
theorem SeqInv.exec_of_accepted (hinv : SeqInv s) {i : Instr} (h : accepted i s.phase s.flushReq = true)
    (hk : operandsOk s.cfg i) :
    ∃ t, exec i s = .next t ∧ t.err = (if i = .rst then ⟨false, false, false⟩ else s.err) := by
  cases i with
  | nop => exact ⟨_, exec_nop_eq s, rfl⟩
  | rst => exact ⟨_, exec_rst_eq s, rfl⟩
  | cnt f count => exact ⟨_, exec_cnt_of_idle (by simpa using h) f count, rfl⟩
  | fla => exact ⟨_, exec_fla_of_idle (by simpa using h), rfl⟩
  | arm tm k =>
    obtain ⟨hidle, hflush⟩ : s.phase = .idle ∧ s.flushReq = false := by simpa using h
    obtain ⟨hpos, hle⟩ := hk
    exact ⟨_, exec_arm_of_ready hidle hflush hpos hle tm, rfl⟩
  | xfd f =>
    cases f with
    | false => exact ⟨_, exec_xfdFail_of_armed (by simpa using h), rfl⟩
    | true => exact ⟨_, exec_xfdOk_of_armed (by simpa using h), rfl⟩
  | dec =>
    obtain ⟨n, hn⟩ := hinv.cursor_of_decoding (by simpa using h)
    exact ⟨_, hinv.exec_dec_eq hn, recordState_err n s⟩
  | run => exact ⟨_, hinv.exec_run_eq (by simpa using h), drainState_err _ s⟩

/-- From a state that meets the sequencing invariant every operation is answered with a next state. -/
theorem SeqInv.exec_answers (hinv : SeqInv s) (i : Instr) : ∃ t, exec i s = .next t := by
  cases h : accepted i s.phase s.flushReq with
  | false => exact ⟨_, exec_of_refused h⟩
  | true =>
    by_cases hk : operandsOk s.cfg i
    · obtain ⟨t, ht, -⟩ := hinv.exec_of_accepted h hk
      exact ⟨t, ht⟩
    · exact ⟨_, exec_of_badOperand h hk⟩

end legality

/-- Settles O39: the three outcomes are `exec_of_refused`, `exec_of_badOperand` and `SeqInv.exec_of_accepted`. -/
theorem legalityTable : Obligations.LegalityTable :=
  fun _ _ => ⟨exec_of_refused, exec_of_badOperand, fun h hk hinv => hinv.exec_of_accepted h hk, fun hinv => hinv.flushIdle⟩

/-- Settles O40: each operation either raises one condition and nothing else or completes with ERR as it was; RUN by its loop. -/
theorem errorBitsAreSticky : Obligations.ErrorBitsAreSticky := by
  intro i s t hi h
  cases i with
  | nop => cases h; exact .inl rfl
  | rst => exact absurd rfl hi
  | cnt f count =>
    rcases execCnt_eq_next h with ⟨-, rfl⟩ | ⟨-, rfl⟩
    · exact .inl rfl
    · exact .inr (.inl rfl)
  | fla =>
    rcases execFla_eq_next h with ⟨-, rfl⟩ | ⟨-, rfl⟩
    · exact .inl rfl
    · exact .inr (.inl rfl)
  | arm tm k =>
    rcases execArm_eq_next h with ⟨-, -, -, -, rfl⟩ | ⟨-, -, -, rfl⟩ | ⟨-, rfl⟩
    · exact .inl rfl
    · exact .inr (.inr rfl)
    · exact .inr (.inl rfl)
  | xfd f =>
    rcases execXfd_eq_next h with ⟨-, -, rfl⟩ | ⟨-, -, rfl⟩ | ⟨-, rfl⟩
    · exact .inl rfl
    · exact .inl rfl
    · exact .inr (.inl rfl)
  | dec =>
    rcases execDec_eq_next h with ⟨-, n, -, -, rfl⟩ | ⟨-, rfl⟩
    · exact .inl (recordState_err n s)
    · exact .inr (.inl rfl)
  | run =>
    rcases execRun_eq_next h with ⟨-, hloop⟩ | ⟨-, rfl⟩
    · exact .inl (runLoop_keeps (P := fun u => u.err = s.err) (fun u n hu _ _ _ => (recordState_err n u).trans hu) rfl hloop)
    · exact .inr (.inl rfl)

/-- Settles O19: with a flush pending the phase is IDLE, so the table refuses every drain operation; what is left is NOP, and CNT, which
keeps the request. -/
theorem pendingFlushBlocksDrains : Obligations.PendingFlushBlocksDrains := by
  intro s hinv hflush
  have hidle := hinv.flushIdle hflush
  have hrefused {i : Instr} {t : State} (hi : accepted i s.phase s.flushReq = false) (h : exec i s = .next t) :
      t.flushReq = true ∧ t.phase = .idle ∧ t.out = s.out := by
    cases h.symm.trans (exec_of_refused hi)
    exact ⟨hflush, hidle, rfl⟩
  refine ⟨hidle, fun tm k => exec_arm_of_busy (.inr hflush) tm k, fun i t hfla hrst h => ?_⟩
  cases i with
  | nop => cases h; exact ⟨hflush, hidle, rfl⟩
  | rst => exact absurd rfl hrst
  | cnt f count =>
    cases h.symm.trans (exec_cnt_of_idle hidle f count)
    exact ⟨by simp [hflush], hidle, rfl⟩
  | fla => exact absurd rfl hfla
  | arm tm k => exact hrefused (by simp [hflush]) h
  | xfd f => exact hrefused (by simp [hidle]) h
  | dec => exact hrefused (by simp [hidle]) h
  | run => exact hrefused (by simp [hidle]) h

/-! What an operation leaves of RXBUF. -/

/-- The two states read the same at every address of a buffer of the same size. -/
structure SameBytes (s t : State) : Prop where
  rxbuf : t.rxbuf = s.rxbuf
  rxDraws : t.rxDraws = s.rxDraws
  powerEpoch : t.powerEpoch = s.powerEpoch
  cfg : t.cfg = s.cfg

section SameBytes
variable {s t : State}

theorem SameBytes.refl (s : State) : SameBytes s s := by
  constructor <;> rfl

theorem SameBytes.recordState (h : SameBytes s t) (i : Nat) : SameBytes s (recordState i t) := by
  cases h
  constructor <;> simp [*]

theorem SameBytes.rxByte_eq (h : SameBytes s t) (a : Nat) : rxByte t a = rxByte s a :=
  rxByte_congr h.rxbuf h.rxDraws h.powerEpoch a

theorem SameBytes.rxbufShown_eq (h : SameBytes s t) : rxbufShown t = rxbufShown s := by
  rw [rxbufShown, rxbufShown, h.cfg, funext h.rxByte_eq]

/-- An operation leaves every byte as it reads, unless it is the XFD that reports a success (R44, R45). -/
theorem exec_bytes {i : Instr} (h : exec i s = .next t) :
    (i = .xfd true ∧ s.phase = .armed ∧ t = xferOkState s) ∨ SameBytes s t := by
  cases i with
  | nop => cases h; exact .inr (.refl s)
  | rst => cases h; exact .inr ⟨rfl, rfl, rfl, rfl⟩
  | cnt f count => rcases execCnt_eq_next h with ⟨-, rfl⟩ | ⟨-, rfl⟩ <;> exact .inr ⟨rfl, rfl, rfl, rfl⟩
  | fla => rcases execFla_eq_next h with ⟨-, rfl⟩ | ⟨-, rfl⟩ <;> exact .inr ⟨rfl, rfl, rfl, rfl⟩
  | arm tm k =>
    rcases execArm_eq_next h with ⟨-, -, -, -, rfl⟩ | ⟨-, -, -, rfl⟩ | ⟨-, rfl⟩ <;> exact .inr ⟨rfl, rfl, rfl, rfl⟩
  | xfd f =>
    rcases execXfd_eq_next h with ⟨hp, rfl, rfl⟩ | ⟨-, -, rfl⟩ | ⟨-, rfl⟩
    · exact .inl ⟨rfl, hp, rfl⟩
    · exact .inr ⟨rfl, rfl, rfl, rfl⟩
    · exact .inr ⟨rfl, rfl, rfl, rfl⟩
  | dec =>
    rcases execDec_eq_next h with ⟨-, n, -, -, rfl⟩ | ⟨-, rfl⟩
    · exact .inr ((SameBytes.refl s).recordState n)
    · exact .inr ⟨rfl, rfl, rfl, rfl⟩
  | run =>
    rcases execRun_eq_next h with ⟨-, hloop⟩ | ⟨-, rfl⟩
    · exact .inr (runLoop_keeps (fun _ n hu _ _ _ => hu.recordState n) (.refl s) hloop)
    · exact .inr ⟨rfl, rfl, rfl, rfl⟩

end SameBytes

/-- Settles O13: but for the XFD that reports a success no operation changes what a byte reads as (`exec_bytes`), and that one leaves the
written bytes and those past the burst (`rxByte_xferOkState_kept`). -/
theorem operationsNeverWriteRxbuf : Obligations.OperationsNeverWriteRxbuf := by
  intro i s t h
  rcases exec_bytes h with ⟨hi, hp, rfl⟩ | hsame
  · refine ⟨rfl, fun hother => ?_, fun a => rxByte_xferOkState_kept s⟩
    exact absurd hother (by simp [hi, hp])
  · exact ⟨hsame.rxbuf, fun _ => ⟨hsame.rxbufShown_eq, hsame.rxByte_eq⟩, fun a _ => hsame.rxByte_eq a⟩

end Sys2Proof.Machine
end

section
/-! SUPPORT. Proofs of the statements about the step: the move it takes (spec 00_scope R10, 60_exceptions R104, R117), the transport
(20_memory R44), the two hardware resets (70_reset R118), and what steps keep of the counters (10_state R27, R28), of OUT (R30) and of
RXBUF. -/

namespace Sys2Proof.Machine

/-! Which move a step takes. -/

/-- Settles O6: the step takes the bundle, and issuing it is `issueBundle_ok` or `issueBundle_error`. -/
theorem stepRunsDecodedOperation : Obligations.StepRunsDecodedOperation := by
  intro s b rest hc hs
  rw [step_move hc hs]
  exact ⟨fun i hi _ => issueBundle_ok hi _, fun e he => issueBundle_error he _⟩

/-- R10 (g) as `Cfg.ScalingOk` puts it. -/
theorem scalingOk_iff (c : Cfg) : c.ScalingOk ↔ ∀ k, c.scaling = some k → k.tempSensitivity ≠ 0 := by
  cases h : c.scaling <;> simp [Cfg.ScalingOk, h]

/-- Settles O7: the seven conditions are `Cfg.WellFormed` (the last by `scalingOk_iff`), without which a step is refused. -/
theorem illFormedConfigHasNoBehaviour : Obligations.IllFormedConfigHasNoBehaviour := by
  refine ⟨fun s hbad => step_eq_refused fun hc => hbad ?_, by decide, by decide⟩
  obtain ⟨hsizes, hoffsets, hdistinct, hfits, hcapacity, hbatch, hscaling⟩ := hc
  exact ⟨hsizes, hoffsets, hdistinct, hfits, hcapacity, hbatch, (scalingOk_iff s.cfg).mp hscaling⟩

/-- Settles O8: with no move left a step answers its own state. -/
theorem stateIsRetainedWithoutMoves : Obligations.StateIsRetainedWithoutMoves :=
  fun _ => step_noMove

/-- Any bundle is answered: its operation by `SeqInv.exec_answers`, and one that spells none with ILLEGAL. -/
theorem SeqInv.issueBundle_answers {s : State} (h : SeqInv s) (b : Bundle) : ∃ t, issueBundle b s = .next t := by
  cases hb : decode b with
  | ok i => rw [issueBundle_ok hb]; exact h.exec_answers i
  | error e => exact ⟨_, issueBundle_error hb s⟩

/-- The transport's move is answered or refused, never a fault. -/
theorem transportMove_ne_fault (a : Nat) (bytes : List Byte) (s : State) (e : Fault) : transportMove a bytes s ≠ .fault e := by
  unfold transportMove
  split_ifs <;> simp

/-- Settles O10: a bundle is answered (`SeqInv.issueBundle_answers`), and no other move has a fault. -/
theorem everyBundleIsAnswered : Obligations.EveryBundleIsAnswered := by
  intro s hinv
  have hanswer (b : Bundle) (rest : List EnvMove) (hs : s.script = .issue b :: rest) : ∃ t, step s = .next t := by
    rw [step_move hinv.cfg hs]
    exact (hinv.withScript rest).issueBundle_answers b
  refine ⟨fun e => ?_, hanswer⟩
  cases hs : s.script with
  | nil => simp [step_noMove hinv.cfg hs]
  | cons m rest =>
    cases m with
    | issue b =>
      obtain ⟨t, ht⟩ := hanswer b rest hs
      simp [ht]
    | rx a bytes => rw [step_move hinv.cfg hs]; exact transportMove_ne_fault _ _ _ _
    | hardReset => simp [step_move hinv.cfg hs, moveStep]
    | powerOn => simp [step_move hinv.cfg hs, moveStep]

/-! The transport. -/

/-- Outside the burst the buffer lists what it listed. -/
theorem memRead_memWriteList_outside (m : List Host.Cell) {a x : Nat} {bs : List Byte} (h : x < a ∨ a + bs.length ≤ x) :
    memRead (memWriteList m a bs) x = memRead m x := by
  rw [memRead_memWriteList]
  split
  · rw [List.getElem?_eq_none (by omega), Option.none_or]
  · rfl

/-- Inside it the buffer lists the burst's bytes. -/
theorem memRead_memWriteList_inside (m : List Host.Cell) (a : Nat) {bs : List Byte} {k : Nat} (h : k < bs.length) :
    memRead (memWriteList m a bs) (a + k) = some bs[k] := by
  rw [memRead_memWriteList, if_pos (Nat.le_add_right a k), Nat.add_sub_cancel_left, List.getElem?_eq_getElem h, Option.some_or]

/-- Settles O11: the step is `storeBurst`, which reads and lists the burst's bytes inside it and what was there outside. -/
theorem transportWritesBurst : Obligations.TransportWritesBurst := by
  intro s a bytes rest hc hs hp hlen hcap
  refine ⟨storeBurst a bytes (withScript rest s), ?_, fun k hk => ?_, fun k hk => memRead_memWriteList_inside _ a hk,
    fun x hx => ⟨rxByte_storeBurst_outside _ a bytes x hx, memRead_memWriteList_outside _ hx⟩, rfl⟩
  · rw [step_move hc hs]
    exact transportMove_ok hp hlen (hlen.trans hcap)
  · have hread := rxByte_storeBurst_inside (withScript rest s) a bytes (a + k) (Nat.le_add_right a k) (by omega)
    simpa using hread

/-- Settles O12: the transport's two tests, taken one by one. -/
theorem transportHasNoOtherStep : Obligations.TransportHasNoOtherStep := by
  intro s a bytes rest hc hs
  rw [step_move hc hs]
  refine ⟨fun hp => if_neg hp, fun hp hlen => (if_pos hp).trans (if_neg ?_)⟩
  rintro ⟨hle, -⟩
  exact absurd hlen (Nat.not_lt.mpr hle)

/-! The resets. -/

/-- Settles O16: the reset input leaves what RST leaves, and after power-on, as in `State.reset`, every register is 0. -/
theorem hardwareResetValues : Obligations.HardwareResetValues := by
  refine ⟨⟨registersZero_resetWith _, rfl, rfl⟩, fun s rest hc hs => step_move hc hs, fun s rest hc hs => ?_⟩
  exact ⟨powerOnState (withScript rest s), step_move hc hs, registersZero_powerOnState _, rfl, rfl, rfl⟩

/-! The counters. -/

/-- No counter of the second state is below that of the first. -/
structure CountersLe (s t : State) : Prop where
  fifoEmpty : s.fifoEmptyCnt.toNat ≤ t.fifoEmptyCnt.toNat
  fifoOverflow : s.fifoOverflowCnt.toNat ≤ t.fifoOverflowCnt.toNat
  fifoReset : s.fifoResetCnt.toNat ≤ t.fifoResetCnt.toNat
  badXfer : s.badXferCnt.toNat ≤ t.badXferCnt.toNat

section CountersLe
variable {s t : State}

theorem CountersLe.refl (s : State) : CountersLe s s := by
  constructor <;> exact Nat.le_refl _

/-- The decode of records touches no counter. -/
theorem SameOutsideDecode.countersLe (h : SameOutsideDecode s t) : CountersLe s t where
  fifoEmpty := by rw [h.fifoEmptyCnt]
  fifoOverflow := by rw [h.fifoOverflowCnt]
  fifoReset := by rw [h.fifoResetCnt]
  badXfer := by rw [h.badXferCnt]

/-- An operation that is not RST lowers no counter: a counter changes by a saturating increment only (R28). -/
theorem exec_countersLe {i : Instr} (hi : i ≠ .rst) (h : exec i s = .next t) : CountersLe s t := by
  have hraise (c : Condition) : CountersLe s (raiseState c s) := { CountersLe.refl s with }
  cases i with
  | nop => cases h; exact .refl s
  | rst => exact absurd rfl hi
  | cnt f count =>
    rcases execCnt_eq_next h with ⟨-, rfl⟩ | ⟨-, rfl⟩
    · exact ⟨le_countIf _ _, le_countIf _ _, Nat.le_refl _, le_countIf _ _⟩
    · exact hraise _
  | fla =>
    rcases execFla_eq_next h with ⟨-, rfl⟩ | ⟨-, rfl⟩
    · exact ⟨Nat.le_refl _, Nat.le_refl _, le_satInc _, Nat.le_refl _⟩
    · exact hraise _
  | arm tm k =>
    rcases execArm_eq_next h with ⟨-, -, -, -, rfl⟩ | ⟨-, -, -, rfl⟩ | ⟨-, rfl⟩
    · exact { CountersLe.refl s with }
    · exact hraise _
    · exact hraise _
  | xfd f =>
    rcases execXfd_eq_next h with ⟨-, -, rfl⟩ | ⟨-, -, rfl⟩ | ⟨-, rfl⟩
    · exact { CountersLe.refl s with }
    · exact ⟨Nat.le_refl _, Nat.le_refl _, Nat.le_refl _, le_satInc _⟩
    · exact hraise _
  | dec =>
    rcases execDec_eq_next h with ⟨-, n, -, -, rfl⟩ | ⟨-, rfl⟩
    · exact ((SameOutsideDecode.refl s).recordState n).countersLe
    · exact hraise _
  | run =>
    rcases execRun_eq_next h with ⟨-, hloop⟩ | ⟨-, rfl⟩
    · exact (runLoop_sameOutsideDecode hloop).countersLe
    · exact hraise _

end CountersLe

/-- Settles O44: of the moves left by the hypotheses only an operation can change a counter (`exec_countersLe`). -/
theorem countersNeverDecrease : Obligations.CountersNeverDecrease := by
  intro s t h hhard hpower hrst
  suffices hle : CountersLe s t from ⟨hle.fifoEmpty, hle.fifoOverflow, hle.fifoReset, hle.badXfer⟩
  obtain ⟨-, ⟨-, rfl⟩ | ⟨b, rest, hs, hb⟩ | ⟨a, bs, rest, -, -, -, -, rfl⟩ | ⟨rest, hs, -⟩ | ⟨rest, hs, -⟩⟩ := step_eq_next h
  · exact .refl _
  · rcases issueBundle_eq_next hb with ⟨i, hi, hexec⟩ | ⟨e, -, rfl⟩
    · have hne : i ≠ .rst := fun hirst => hrst b rest hs (hirst ▸ hi)
      exact { exec_countersLe hne hexec with }
    · exact { CountersLe.refl s with }
  · exact { CountersLe.refl s with }
  · exact absurd hs (hhard rest)
  · exact absurd hs (hpower rest)

/-! OUT. -/

/-- The decode of a record appends at most one sample. -/
theorem out_recordState (i : Nat) (s : State) : s.out <+: (recordState i s).out := by
  rw [recordState_out]
  split
  · exact List.prefix_append _ _
  · exact List.prefix_rfl

/-- An operation only appends to OUT. -/
theorem exec_out {i : Instr} {s t : State} (h : exec i s = .next t) : s.out <+: t.out :=
  exec_keeps (P := fun u => s.out <+: u.out)
    (hraise := fun _ _ hu => hu) (hreset := fun _ hu => hu) (hcnt := fun _ _ _ hu _ => hu) (hfla := fun _ hu _ => hu)
    (harm := fun _ _ _ hu _ _ _ _ => hu) (hok := fun _ hu _ => hu) (hfail := fun _ hu _ => hu)
    (hrec := fun u n hu _ _ _ => hu.trans (out_recordState n u)) List.prefix_rfl h

/-- Only DEC and RUN write OUT: R31's column, as `registerTable` has it. -/
theorem exec_out_eq {i : Instr} {s t : State} (h : exec i s = .next t) (hdec : i ≠ .dec) (hrun : i ≠ .run) : t.out = s.out := by
  obtain ⟨-, -, -, htable⟩ := registerTable
  obtain ⟨-, hout, -⟩ := htable i s t h
  exact hout hdec hrun

/-- Settles O45: an operation only appends (`exec_out`) and only DEC and RUN do (`exec_out_eq`); no other move but power-on touches OUT. -/
theorem outputIsAppendOnly : Obligations.OutputIsAppendOnly := by
  intro s t h hpower
  obtain ⟨-, ⟨-, rfl⟩ | ⟨b, rest, hs, hb⟩ | ⟨a, bs, rest, -, -, -, -, rfl⟩ | ⟨rest, -, rfl⟩ | ⟨rest, hs, -⟩⟩ := step_eq_next h
  · exact ⟨List.prefix_rfl, fun _ => rfl⟩
  · rcases issueBundle_eq_next hb with ⟨i, hi, hexec⟩ | ⟨e, -, rfl⟩
    · have happend := exec_out hexec
      have hkeeps := exec_out_eq hexec
      refine ⟨happend, fun hother => ?_⟩
      obtain ⟨hdec, hrun⟩ := hother b rest hs
      exact hkeeps (fun he => hdec (he ▸ hi)) (fun he => hrun (he ▸ hi))
    · exact ⟨List.prefix_rfl, fun _ => rfl⟩
  · exact ⟨List.prefix_rfl, fun _ => rfl⟩
  · exact ⟨List.prefix_rfl, fun _ => rfl⟩
  · exact absurd hs (hpower rest)

/-! RXBUF. -/

/-- Settles O55: an operation is `operationsNeverWriteRxbuf`, and the transport writes in ARMED only, below XFER_LEN. -/
theorem rxbufChangesOnlyInArmed : Obligations.RxbufChangesOnlyInArmed := by
  intro s t h hpower a ha
  obtain ⟨-, ⟨-, rfl⟩ | ⟨b, rest, hs, hb⟩ | ⟨start, bs, rest, -, hp, hlen, -, rfl⟩ | ⟨rest, -, rfl⟩ | ⟨rest, hs, -⟩⟩ :=
    step_eq_next h
  · exact ⟨rfl, rfl⟩
  · rcases issueBundle_eq_next hb with ⟨i, -, hexec⟩ | ⟨e, -, rfl⟩
    · obtain ⟨hbuf, hother, hkept⟩ := operationsNeverWriteRxbuf i _ t hexec
      refine ⟨?_, congrArg (memRead · a) hbuf⟩
      rcases ha with hp | hout
      · exact (hother (.inr hp)).2 a
      · exact hkept a (.inl hout)
    · exact ⟨rfl, rfl⟩
  · have hout : a < start ∨ start + bs.length ≤ a := .inr (hlen.trans (ha.resolve_left (not_not.mpr hp)))
    exact ⟨rxByte_storeBurst_outside _ start bs a hout, memRead_memWriteList_outside _ hout⟩
  · exact ⟨rxByte_resetRegisters _ a, rfl⟩
  · exact absurd hs (hpower rest)

end Sys2Proof.Machine
end

section
/-! SUPPORT. Proofs of the statements about the drain as a whole: what RUN emits and counts (spec 42_drain_ops R99), the order of the
timestamps (95_test_vectors T4), the addresses it reads (20_memory R38) and the bytes it does not (30_encoding R64). -/

namespace Sys2Proof.Machine

/-! What a drain leaves. -/

theorem drainState_frame (n : Nat) (s : State) : DecodeFrame s (drainState n s) := by
  cases n with
  | zero => rfl
  | succ i =>
    obtain ⟨u, hu, hlast⟩ := drainState_succ i s
    rw [hlast]
    exact hu.trans (recordState_frame 0 u)

theorem DecodeFrame.drainSamples_eq {s t : State} (h : DecodeFrame s t) (n : Nat) : drainSamples t n = drainSamples s n := by
  induction n with
  | zero => rfl
  | succ i ih => rw [drainSamples, drainSamples, ih, h.decodeAt_eq, h.tsAt_eq]

/-- The samples of `n + 1` records are that of the newest, if it is valid, before those of the others (R99). -/
theorem drainSamples_succ (s : State) (i : Nat) :
    drainSamples s (i + 1) =
      if (decodeAt s i).flags.valid then (decodeAt s i).sample (tsAt s i) :: drainSamples s i else drainSamples s i := by
  rw [drainSamples]
  split <;> rfl

/-- A drain appends the samples of its records in the order of their decode. -/
theorem drainState_out (n : Nat) (s : State) : (drainState n s).out = s.out ++ drainSamples s n := by
  induction n generalizing s with
  | zero => exact (List.append_nil _).symm
  | succ i ih =>
    rw [drainState, ih, (recordState_frame i s).drainSamples_eq, recordState_out, drainSamples_succ]
    split <;> simp

section SeqInv
variable {s : State}

theorem SeqInv.after_drain {n : Nat} (h : SeqInv s) (hn : s.idx.toNat = n) : SeqInv (drainState n s) := by
  induction n generalizing s with
  | zero => exact h
  | succ i ih => exact ih (h.after_record hn) (recordState_idx_toNat hn)

/-- VALID_COUNT counts the emitted samples and does not wrap (R96, R99). -/
theorem SeqInv.drainState_validCount_toNat {n : Nat} (h : SeqInv s) (hn : s.idx.toNat = n) :
    (drainState n s).validCount.toNat = s.validCount.toNat + (drainSamples s n).length := by
  induction n generalizing s with
  | zero => rfl
  | succ i ih =>
    rw [drainState, ih (h.after_record hn) (recordState_idx_toNat hn), (recordState_frame i s).drainSamples_eq,
      h.recordState_validCount_toNat hn, drainSamples_succ]
    split
    · rw [List.length_cons]
      omega
    · rfl

end SeqInv

/-- Settles O24: RUN answers `drainState` of IDX records; OUT is `drainState_out`, VALID_COUNT `SeqInv.drainState_validCount_toNat`, the bound
is part of the sequencing invariant, which the drain keeps (`SeqInv.after_drain`), and DRAIN_ERR is none of the elements DEC writes. -/
theorem runEmitsValidRecordsNewestFirst : Obligations.RunEmitsValidRecordsNewestFirst := by
  intro s hinv hp
  have hframe : DecodeFrame s (drainState s.idx.toNat s) := drainState_frame _ s
  have hle := (hinv.after_drain rfl).validLe
  unfold DecodeFrame at hframe
  have hk : (drainState s.idx.toNat s).kLat = s.kLat := by rw [hframe]
  have herr : (drainState s.idx.toNat s).drainErr = s.drainErr := by rw [hframe]
  rw [hk] at hle
  exact ⟨_, hinv.exec_run_eq hp, drainState_out _ s, hinv.drainState_validCount_toNat rfl, (Nat.le_add_right _ _).trans hle,
    herr.trans (hinv.noResultYet (by simp [hp])).2⟩

/-! The timestamps. -/

/-- A sample carries the timestamp of its record. -/
theorem exists_ts_of_mem_drainSamples {s : State} {n : Nat} {r : OutSample} (h : r ∈ drainSamples s n) :
    ∃ i < n, r.ts = tsAt s i := by
  induction n with
  | zero => cases h
  | succ i ih =>
    have hcases : r = (decodeAt s i).sample (tsAt s i) ∨ r ∈ drainSamples s i := by
      rw [drainSamples_succ] at h
      split at h
      · exact List.mem_cons.mp h
      · exact .inr h
    rcases hcases with rfl | hold
    · exact ⟨i, i.lt_succ_self, rfl⟩
    · obtain ⟨j, hj, hts⟩ := ih hold
      exact ⟨j, hj.trans i.lt_succ_self, hts⟩

/-- Where T covers the span of the batch no timestamp wraps, so an older record has a smaller one (R83, R84). -/
theorem tsAt_lt {s : State} {i j : Nat} (hperiod : 1 ≤ s.cfg.samplePeriodUs)
    (hspan : (s.kLat.toNat - 1) * s.cfg.samplePeriodUs ≤ s.tLat.toNat) (hij : i < j) (hj : j < s.kLat.toNat) :
    (tsAt s i).toNat < (tsAt s j).toNat := by
  have hage : (s.kLat.toNat - 1 - j) * s.cfg.samplePeriodUs < (s.kLat.toNat - 1 - i) * s.cfg.samplePeriodUs :=
    Nat.mul_lt_mul_of_pos_right (by omega) hperiod
  have hfits : (s.kLat.toNat - 1 - i) * s.cfg.samplePeriodUs ≤ s.tLat.toNat :=
    (Nat.mul_le_mul_right _ (Nat.sub_le _ _)).trans hspan
  rw [tsAt, tsAt, recordTs_toNat_of_le _ (hij.trans hj) hfits, recordTs_toNat_of_le _ hj (hage.le.trans hfits)]
  omega

/-- Settles O25: by induction on the number of records; the newest one's timestamp is above every older one's (`tsAt_lt`). -/
theorem drainTimestampsDecrease : Obligations.DrainTimestampsDecrease := by
  intro s hinv hp hspan
  obtain ⟨⟨-, -, hperiod, -⟩, -⟩ := hinv.cfg
  have hle := hinv.idxLe
  generalize s.idx.toNat = n at hle
  induction n with
  | zero => exact .nil
  | succ i ih =>
    have hold := ih (by omega)
    rw [drainSamples_succ]
    split
    · refine List.pairwise_cons.mpr ⟨fun r hr => ?_, hold⟩
      obtain ⟨j, hj, hts⟩ := exists_ts_of_mem_drainSamples hr
      rw [hts]
      exact tsAt_lt hperiod hspan hj (by omega)
    · exact hold

/-! The addresses read. -/

/-- Settles O26: the field is below the length of the batch (`field_below`), which is XFER_LEN and fits the buffer (`batch_fits`). -/
theorem drainReadsBelowXferLen : Obligations.DrainReadsBelowXferLen := by
  intro s i o hinv hp hi ho
  have hlen := hinv.xferLen (by simp [hp])
  have hfield := field_below hinv.cfg hi ho
  obtain ⟨hfits, -⟩ := batch_fits hinv.cfg hinv.kLe
  refine ⟨?_, by omega, by omega⟩
  rw [recordBase]
  omega

/-! The bytes not read. -/

/-- `s` with the buffer of `r` and the model's own records of it. -/
def withBuffer (s r : State) : State :=
  { s with rxbuf := r.rxbuf, rxWin := r.rxWin, rxDraws := r.rxDraws, powerEpoch := r.powerEpoch }

/-- The two buffers agree on the seventeen bytes of every record still to decode. -/
def ReadsAgree (s r : State) : Prop :=
  ∀ j < s.idx.toNat, ∀ o ∈ s.cfg.offsets.list, rxByte r (recordBase s.cfg j + o) = rxByte s (recordBase s.cfg j + o)

section withBuffer
variable {s r t : State}

theorem ReadsAgree.decodeAt_eq (h : ReadsAgree s r) {i : Nat} (hi : i < s.idx.toNat) :
    decodeAt (withBuffer s r) i = decodeAt s i := by
  have hbytes : fetchRecord (withBuffer s r) i = fetchRecord s i := recordBytes_congr s.cfg.offsets (h i hi)
  rw [decodeAt, decodeAt, hbytes]
  rfl

theorem ReadsAgree.after_record (h : ReadsAgree s r) {i : Nat} (hi : s.idx.toNat = i + 1) : ReadsAgree (recordState i s) r := by
  intro j hj o ho
  rw [recordState_idx_toNat hi] at hj
  rw [recordState_cfg] at ho ⊢
  rw [rxByte_recordState]
  exact h j (by omega) o ho

theorem forwardSample_withBuffer (d : Decoded) (ts : W64) :
    forwardSample d ts (withBuffer s r) = withBuffer (forwardSample d ts s) r := by
  unfold forwardSample
  split <;> rfl

theorem advanceCursor_withBuffer (i : Nat) : advanceCursor i (withBuffer s r) = withBuffer (advanceCursor i s) r := by
  unfold advanceCursor
  split <;> rfl

/-- The decode of a record depends on the buffer through its seventeen bytes only (R64). -/
theorem ReadsAgree.recordState_withBuffer (h : ReadsAgree s r) {i : Nat} (hi : s.idx.toNat = i + 1) :
    recordState i (withBuffer s r) = withBuffer (recordState i s) r := by
  have hwrite (d : Decoded) (ts : W64) : writeResults d ts (withBuffer s r) = withBuffer (writeResults d ts s) r := rfl
  have hts : tsAt (withBuffer s r) i = tsAt s i := rfl
  simp only [recordState, h.decodeAt_eq (by omega : i < s.idx.toNat), hts, hwrite, forwardSample_withBuffer,
    advanceCursor_withBuffer]

theorem ReadsAgree.decodeNext_withBuffer (h : ReadsAgree s r) (hs : decodeNext s = .next t) :
    decodeNext (withBuffer s r) = .next (withBuffer t r) := by
  obtain ⟨i, hi, hin, rfl⟩ := decodeNext_eq_next hs
  have hi' : (withBuffer s r).idx.toNat = i + 1 := hi
  rw [decodeNext_succ hi', h.recordState_withBuffer hi]
  exact if_pos hin

theorem ReadsAgree.runLoop_withBuffer {n : Nat} (h : ReadsAgree s r) (hs : runLoop n s = .next t) :
    runLoop n (withBuffer s r) = .next (withBuffer t r) := by
  induction n generalizing s with
  | zero => cases hs; rfl
  | succ n ih =>
    have hphase : (withBuffer s r).phase = s.phase := rfl
    rw [runLoop] at hs ⊢
    rw [hphase]
    split at hs
    · next hp =>
      obtain ⟨u, hu, ht⟩ := andThen_eq_next.mp hs
      have hagree : ReadsAgree u r := by
        obtain ⟨i, hi, -, rfl⟩ := decodeNext_eq_next hu
        exact h.after_record hi
      rw [if_pos hp, h.decodeNext_withBuffer hu, andThen_next]
      exact ih hagree ht
    · next hp =>
      cases hs
      exact if_neg hp

end withBuffer

/-- Settles O27: DEC is one decode and RUN a loop of them, and each commutes with an exchange of the buffer for one that agrees on the
bytes read. -/
theorem unreadBytesDoNotMatter : Obligations.UnreadBytesDoNotMatter := by
  intro s s' t i hi hs' hagree h
  have hreads : ReadsAgree s s' := hagree
  have hs : s' = withBuffer s s' := hs'
  show exec i s' = .next (withBuffer t s')
  rw [congrArg (exec i) hs]
  rcases hi with rfl | rfl
  · by_cases hp : s.phase = .decoding
    · exact (if_pos hp).trans (hreads.decodeNext_withBuffer ((if_pos hp).symm.trans h))
    · cases h.symm.trans (exec_dec_of_not_decoding hp)
      exact exec_dec_of_not_decoding (s := withBuffer s s') hp
  · by_cases hp : s.phase = .decoding
    · exact (if_pos hp).trans (hreads.runLoop_withBuffer ((if_pos hp).symm.trans h))
    · cases h.symm.trans (exec_run_of_not_decoding hp)
      exact exec_run_of_not_decoding (s := withBuffer s s') hp

end Sys2Proof.Machine
end

section
/-! SUPPORT. The proof of the statement about the status ports (spec 10_state R13, 60_exceptions R116). -/

namespace Sys2Proof.Machine

/-- RXBUF's port shows every byte of the buffer. -/
theorem rxByte_eq_of_rxbufShown_eq {s t : State} (h : rxbufShown s = rxbufShown t) {a : Nat} (ha : a < s.cfg.fifoCapacity) :
    rxByte s a = rxByte t a := by
  have hcap : s.cfg.fifoCapacity = t.cfg.fifoCapacity := by rw [← rxbufShown_length, h, rxbufShown_length]
  have hshown : some (rxByte s a) = some (rxByte t a) := by
    rw [← rxbufShown_getElem? s ha, h, rxbufShown_getElem? t (hcap ▸ ha)]
  exact Option.some.inj hshown

/-- Settles O54: each port is read off; the other way, STATUS, SFLAGS and ERR determine their fields and RXBUF's port its bytes. -/
theorem everyElementIsOnAStatusPort : Obligations.EveryElementIsOnAStatusPort := by
  refine ⟨fun s => ⟨rfl, rfl, rfl, rfl, rfl, rfl, rfl, rfl, rfl, rfl, rfl, rfl, rfl, rfl, rfl, rfl, rfl, rfl, rfl, rfl, rfl, rfl, rfl,
    rxbufShown_length s, fun a ha => rxbufShown_getElem? s ha⟩, fun s t h => ?_⟩
  have hreg (p : Port) : s.port p = t.port p := h (.register p)
  obtain ⟨hphase, hclass, hdrainErr, hdone, hflush⟩ := status_fields_eq (hreg .status)
  exact ⟨hphase, hreg .idx, hreg .kLat, hreg .tLat, hreg .xferLen, hreg .byteCount, hreg .samples, hclass, hflush, hdone, hdrainErr,
    hreg .validCount, hreg .ax, hreg .ay, hreg .az, hreg .gx, hreg .gy, hreg .gz, hreg .tempRaw, hreg .ts,
    sampleFlags_bits_injective (hreg .sflags), errFlags_bits_injective (hreg .err), hreg .fifoEmptyCnt, hreg .fifoOverflowCnt,
    hreg .fifoResetCnt, hreg .badXferCnt, h .out, fun _ => rxByte_eq_of_rxbufShown_eq (h .rxbuf)⟩

end Sys2Proof.Machine
end
